-- ==== Sys2Proof/Word.lean ====
section
/-! DEFINITION. The words of the device: bytes, addresses, the command word, the transaction word, colours. -/

namespace Sys2Proof

/-- A byte: a register, a VRAM byte, an operand (00_scope.md R9). -/
abbrev Byte := BitVec 8

/-- A VRAM address, 0x0000..0x3FFF: the width of the address latch (R9, R24). -/
abbrev VramAddr := BitVec 14

/-- The command word assembled by two control-port writes (R9, R27). -/
abbrev CommandWord := BitVec 16

/-- A transaction word `kkkk dddddddd`: the kind in bits 11..8, the operand byte in bits 7..0 (30_encoding.md R80). -/
abbrev TransactionWord := BitVec 12

/-- A colour: three channels of 8 bits, in the order red, green, blue (R14). -/
structure RGB where
  r : Byte
  g : Byte
  b : Byte
  deriving DecidableEq, Repr

/-- Black, (0,0,0): what a cleared buffer holds (10_state.md R32, R38). -/
def RGB.black : RGB := ⟨0, 0, 0⟩

end Sys2Proof
end

