-- ==== Sys2Proof/Syntax.lean ====
section
/-! DEFINITION. The transactions of the device, one constructor per row of spec/opcode_table.json, and the
program items of 30_encoding.md R91 and R92. -/

namespace Sys2Proof

/-- A transaction as the device decodes it (R80, R86). -/
inductive Instr where
  /-- INIT (R210). -/
  | init
  /-- SHUTDOWN (R212). -/
  | shutdown
  /-- WC.FIRST (R100): the first byte of a control pair. -/
  | wcFirst (b : Byte)
  /-- WC.RSETUP (R101): second byte `00aaaaaa`, VRAM read setup. -/
  | wcRsetup (a : BitVec 6)
  /-- WC.WSETUP (R102): second byte `01aaaaaa`, VRAM write setup. -/
  | wcWsetup (a : BitVec 6)
  /-- WC.REG (R130): second byte `10xxxrrr`, register write. The bits x are no part of the index (R88); the command
  word stores them (R103). -/
  | wcReg (x : BitVec 3) (r : BitVec 3)
  /-- WC.REG3 (R130): second byte `11xxxrrr`, the second spelling of the register write (R88). -/
  | wcReg3 (x : BitVec 3) (r : BitVec 3)
  /-- WD (R104). -/
  | wd (b : Byte)
  /-- RD (R107). -/
  | rd
  /-- RS (R110). -/
  | rs
  /-- TICK (R190). -/
  | tick
  /-- CI (R195). -/
  | ci
  /-- FB (R214). -/
  | fb
  /-- WIDTH (R215). -/
  | width
  /-- HEIGHT (R216). -/
  | height
  /-- SPF (R217). -/
  | spf
  deriving DecidableEq, Repr

/-- One item of a program in the spec's textual form (R91), pseudo-transactions included (R92). -/
inductive ProgramItem where
  /-- A transaction, given as its word. -/
  | word (w : TransactionWord)
  /-- `SETREG n, v`. -/
  | setreg (n : BitVec 3) (v : Byte)
  /-- `SETR a`: read setup. -/
  | setr (a : VramAddr)
  /-- `SETW a`: write setup. -/
  | setw (a : VramAddr)
  /-- `SYNC`: a status read whose result is discarded. -/
  | sync
  /-- `FRAME`: 262 ticks. -/
  | frame
  deriving DecidableEq, Repr

/-- One line of a program: an item and the suffix `xN` (R91). -/
structure ProgramLine where
  item : ProgramItem
  times : Nat
  deriving DecidableEq, Repr

end Sys2Proof
end

