-- ==== Sys2Proof/WellFormed.lean ====
section
/-! DEFINITION. When a transaction is well formed. Every operand's range is in its type; what is left to check is the
phase: the control-port rows are decoded by the control-latch flag (30_encoding.md R84). -/

namespace Sys2Proof

/-- The phase of the control port in which a transaction exists: `some false` for the first byte of a pair, `some true`
for a second byte, `none` where the flag plays no part (R84: "No other transaction has more than one byte"). -/
def Instr.phase : Instr → Option Bool
  | .wcFirst _ => some false
  | .wcRsetup _ => some true
  | .wcWsetup _ => some true
  | .wcReg _ _ => some true
  | .wcReg3 _ _ => some true
  | .init => none
  | .shutdown => none
  | .wd _ => none
  | .rd => none
  | .rs => none
  | .tick => none
  | .ci => none
  | .fb => none
  | .width => none
  | .height => none
  | .spf => none

/-- `i` is a transaction the device can be given while its control-latch flag is `second` (R84). -/
def Instr.wellFormed (second : Bool) (i : Instr) : Bool :=
  match i.phase with
  | none => true
  | some p => p == second

end Sys2Proof
end

