-- ==== Sys2Proof/Decode.lean ====
section
/-! DEFINITION. Decoding a transaction word (30_encoding.md R80..R88), encoding it again, and the expansion of program
items into words (R92). The decoder is total: every 12-bit word gives a transaction or a rejection by name. -/

namespace Sys2Proof

/-- Why a word is no transaction. -/
inductive DecodeError where
  /-- Kinds 0xC..0xF: "no such transaction" (R82). -/
  | noSuchTransaction (kind : BitVec 4)
  deriving DecidableEq, Repr

/-- The kind, bits 11..8 (R80). -/
def TransactionWord.kind (w : TransactionWord) : BitVec 4 := w.extractLsb' 8 4

/-- The operand byte, bits 7..0 (R80, R81). -/
def TransactionWord.operand (w : TransactionWord) : Byte := w.extractLsb' 0 8

/-- A control-port byte, decoded by the control-latch flag (R84) and, as a second byte, by its command code
`byte2 >> 6` (R86, R87). Every byte is defined in both phases (R88, R103). -/
def decodeControl (second : Bool) (b : Byte) : Instr :=
  if second then
    match (b.extractLsb' 6 2).toNat with
    | 0 => .wcRsetup (b.extractLsb' 0 6)
    | 1 => .wcWsetup (b.extractLsb' 0 6)
    | 2 => .wcReg (b.extractLsb' 3 3) (b.extractLsb' 0 3)
    | _ => .wcReg3 (b.extractLsb' 3 3) (b.extractLsb' 0 3)
  else .wcFirst b

/-- The transaction a word stands for while the control-latch flag is `second` (R80 to R86). The operand byte of a kind
without operand is ignored (R81). -/
def decode (second : Bool) (w : TransactionWord) : Except DecodeError Instr :=
  match w.kind.toNat with
  | 0 => .ok .init
  | 1 => .ok .shutdown
  | 2 => .ok (decodeControl second w.operand)
  | 3 => .ok (.wd w.operand)
  | 4 => .ok .rd
  | 5 => .ok .rs
  | 6 => .ok .tick
  | 7 => .ok .ci
  | 8 => .ok .fb
  | 9 => .ok .width
  | 10 => .ok .height
  | 11 => .ok .spf
  | _ => .error (.noSuchTransaction w.kind)

/-- The second control byte of a VRAM setup: command code `c`, address bits 13..8 (R86). -/
def setupByte (c : BitVec 2) (a : BitVec 6) : Byte := c ++ a

/-- The second control byte of a register write: command code `c`, ignored bits `x`, index `r` (R86, R88). -/
def registerByte (c : BitVec 2) (x r : BitVec 3) : Byte := (c ++ x ++ r : BitVec 8)

/-- The transaction word of kind `k` with operand byte `b` (R80). -/
def transactionWord (k : BitVec 4) (b : Byte) : TransactionWord := k ++ b

/-- The canonical word of a transaction (R80, R81: the operand field of a kind without operand is 0x00). -/
def encode : Instr → TransactionWord
  | .init => transactionWord 0x0 0x00
  | .shutdown => transactionWord 0x1 0x00
  | .wcFirst b => transactionWord 0x2 b
  | .wcRsetup a => transactionWord 0x2 (setupByte 0b00 a)
  | .wcWsetup a => transactionWord 0x2 (setupByte 0b01 a)
  | .wcReg x r => transactionWord 0x2 (registerByte 0b10 x r)
  | .wcReg3 x r => transactionWord 0x2 (registerByte 0b11 x r)
  | .wd b => transactionWord 0x3 b
  | .rd => transactionWord 0x4 0x00
  | .rs => transactionWord 0x5 0x00
  | .tick => transactionWord 0x6 0x00
  | .ci => transactionWord 0x7 0x00
  | .fb => transactionWord 0x8 0x00
  | .width => transactionWord 0x9 0x00
  | .height => transactionWord 0xA 0x00
  | .spf => transactionWord 0xB 0x00

/-- The mask of a transaction's row in spec/opcode_table.json. -/
def Instr.rowMask : Instr → TransactionWord
  | .init => 0xF00
  | .shutdown => 0xF00
  | .wcFirst _ => 0xF00
  | .wcRsetup _ => 0xFC0
  | .wcWsetup _ => 0xFC0
  | .wcReg _ _ => 0xFC0
  | .wcReg3 _ _ => 0xFC0
  | .wd _ => 0xF00
  | .rd => 0xF00
  | .rs => 0xF00
  | .tick => 0xF00
  | .ci => 0xF00
  | .fb => 0xF00
  | .width => 0xF00
  | .height => 0xF00
  | .spf => 0xF00

/-- The match value of a transaction's row in spec/opcode_table.json. -/
def Instr.rowMatch : Instr → TransactionWord
  | .init => 0x000
  | .shutdown => 0x100
  | .wcFirst _ => 0x200
  | .wcRsetup _ => 0x200
  | .wcWsetup _ => 0x240
  | .wcReg _ _ => 0x280
  | .wcReg3 _ _ => 0x2C0
  | .wd _ => 0x300
  | .rd => 0x400
  | .rs => 0x500
  | .tick => 0x600
  | .ci => 0x700
  | .fb => 0x800
  | .width => 0x900
  | .height => 0xA00
  | .spf => 0xB00

/-- The words a program item stands for: a pseudo-transaction "is exactly its expansion" (R92). -/
def ProgramItem.expand : ProgramItem → List TransactionWord
  | .word w => [w]
  | .setreg n v => [transactionWord 0x2 v, transactionWord 0x2 (0x80 ||| n.setWidth 8)]
  | .setr a => [transactionWord 0x2 (a.extractLsb' 0 8), transactionWord 0x2 (setupByte 0b00 (a.extractLsb' 8 6))]
  | .setw a => [transactionWord 0x2 (a.extractLsb' 0 8), transactionWord 0x2 (setupByte 0b01 (a.extractLsb' 8 6))]
  | .sync => [transactionWord 0x5 0x00]
  | .frame => List.replicate 262 (transactionWord 0x6 0x00)

/-- The words of a program line: its item's words, repeated (R91). -/
def ProgramLine.expand (l : ProgramLine) : List TransactionWord :=
  (List.replicate l.times l.item.expand).flatten

/-- The words of a program (R91, R92). -/
def expandProgram (p : List ProgramLine) : List TransactionWord :=
  p.flatMap ProgramLine.expand

/-- The phase in which a bare word of the opcode table is read (log 12): the table has five rows for the control port, four
of them second bytes whose words are also words of WC.FIRST; a bare word is read in the phase of the four. -/
def tablePhase : Bool := true

/-- The transaction the decoder reads from an opcode-table word of `nbits` bits. The word is one 12-bit transaction word;
a number with a bit above bit 11 is none. -/
def decodeTableWord (nbits w : Nat) : Option Instr :=
  if w < 2 ^ min nbits 12 then
    match decode tablePhase (BitVec.ofNat 12 w) with
    | .ok i => some i
    | .error _ => none
  else none

end Sys2Proof
end

