-- ==== Sys2Proof/Config.lean ====
section
/-! DEFINITION. What an implementation fixes: the fixed sizes of 00_scope.md R9 and the open parameters of R10. -/

namespace Sys2Proof

/-- Memory as plain data: (address, byte) pairs in the canonical form `Machine.Memory.wf`. -/
abbrev Memory := List Host.Cell

namespace Config

/-- Framebuffer and line buffer width in pixels (R9). -/
abbrev lineWidth : Nat := 256

/-- Framebuffer height, which is the number of visible scanlines (R9). -/
abbrev frameHeight : Nat := 192

/-- Scanlines per frame; the counter runs 0..261 (R9). -/
abbrev scanlines : Nat := 262

/-- The scanline whose tick is the vertical-blank boundary (R9). -/
abbrev vblankLine : Nat := 192

/-- The parameter GFX2_MODEL: which Graphics II decoder the device has (R10, 92_eei_decisions.md D14). -/
inductive Gfx2Model where
  | datasheet
  | backdropStub
  deriving DecidableEq, Repr

/-- The open parameters that some rule reads (R10): "The model takes each of these as an argument".
They are plain data, so a statement about every state is a statement about every value of them. -/
structure Params where
  /-- VRAM_INIT (D11): the 16,384 bytes VRAM holds after INIT. -/
  vramInit : Memory
  /-- TRANSPARENT_RGB (D12): the colour of the backdrop when its index is 0. -/
  transparentRgb : RGB
  /-- STATUS_CLEARS_IRQ (D13): whether a status read folds in the interrupt acknowledgement. -/
  statusClearsIrq : Bool
  /-- GFX2_MODEL (D14). -/
  gfx2Model : Gfx2Model
  deriving DecidableEq, Repr

/-- The defaults the spec takes (R10) for the three parameters that have one.
DESIGN CHOICE (log 6): R10 gives VRAM_INIT no default; here it is all zero bytes. Unsafe: no statement rests on it. -/
def Params.default : Params where
  vramInit := []
  transparentRgb := ⟨0, 0, 0⟩
  statusClearsIrq := false
  gfx2Model := .datasheet

/-- The host addresses of the two ports (R241). -/
structure PortMap where
  control : Nat
  data : Nat
  deriving DecidableEq, Repr, Inhabited

/-- The parameter PORT_MAP (R10, D4): open, and read by no rule of the spec (log 10). -/
opaque portMap : PortMap

end Config
end Sys2Proof
end

