-- ==== Sys2Proof/Machine/State.lean ====
section
/-! DEFINITION. The state of the device (10_state.md R20), the host's side of the port, the reasons a step can stop, and the
state after reset (R38). -/

namespace Sys2Proof.Machine

open Sys2Proof.Config

/-- One row of pixels: the line buffer (R32) and each framebuffer row (R31). -/
abbrev Line := Vector RGB lineWidth

/-- The framebuffer: 192 rows of 256 pixels, row-major, origin top-left (R31). -/
abbrev Frame := Vector Line frameHeight

/-- A line of one colour. -/
def Line.filled (c : RGB) : Line := Vector.replicate lineWidth c

/-- A line of black pixels (R32, R38). -/
def Line.black : Line := Line.filled RGB.black

/-- A framebuffer of black pixels: "framebuffers zeroed" (R38). -/
def Frame.black : Frame := Vector.replicate frameHeight Line.black

/-- The lifecycle (R33). The spec's LIVE and SHUT, and `absent` for the time before INIT: "all state is created by
initialization" (log 4). -/
inductive Life where
  | absent
  | live
  | shut
  deriving DecidableEq, Repr

/-- What a transaction returns to the host (30_encoding.md R80, R83). -/
inductive HostResult where
  | nothing
  | byte (b : Byte)
  | bool (b : Bool)
  | frame (f : Frame)
  | number (n : Nat)
  deriving DecidableEq, Repr

/-- The display modes as tagged values (42_renderer.md R153). -/
inductive Mode where
  | graphicsI
  | text
  | graphicsII
  | multicolor
  | undocumented
  deriving DecidableEq, Repr

/-- Why the machine stops with a fault. No transaction does: "The device raises no exception" (60_exceptions.md R230), so
there is no reason to name. Safe. -/
inductive Fault where
  deriving DecidableEq, Repr

/-- Why a transaction is refused (00_scope.md R13, 44_host_queries.md R213). -/
inductive Refusal where
  /-- Raised by an arm of `exec` that has no meaning yet. Safe. No arm is left so. -/
  | notModelled (mnemonic : String)
  /-- Raised by every transaction but INIT while no device exists (R213). Safe: no next state, so no claim rests on it. -/
  | noDevice
  /-- Raised by every transaction after SHUTDOWN (R212, R213). Safe, as above. -/
  | deviceShut
  /-- Raised by INIT on a live device (R213, R260). Safe, as above. -/
  | deviceExists
  /-- Raised by `step` on a word of kind 0xC..0xF (R82, R213). Safe, as above. -/
  | noSuchTransaction (kind : BitVec 4)
  deriving DecidableEq, Repr

/-- The state: the twelve fields of R20, the parameters of R10 (fixed for one machine), and the host's side of the port. -/
structure State where
  /-- Video RAM (R23). -/
  vram : Memory
  /-- Registers R0..R7 (R21). -/
  reg : Vector Byte 8
  /-- Address latch (R24). -/
  addr : VramAddr
  /-- Read-prefetch buffer (R25). -/
  rbuf : Byte
  /-- Control-latch flag: true means the next control write is the second byte of a pair (R26). -/
  second : Bool
  /-- Command word (R27). -/
  cmd : CommandWord
  /-- Scanline counter, 0..261 (R28; the bound is an invariant, log 20). -/
  v : Nat
  /-- Vblank flag (R29). -/
  vblank : Bool
  /-- Interrupt-pending latch (R30). -/
  irq : Bool
  /-- Framebuffer (R31). -/
  fb : Frame
  /-- Line buffer (R32). -/
  lbuf : Line
  /-- Lifecycle (R33). -/
  life : Life
  /-- The open parameters (R10). No transaction changes them. -/
  params : Params
  /-- The model's own: the words of the transactions the host has issued and that have not run, oldest first (log 1). -/
  pending : List TransactionWord
  /-- The model's own: what the last completed transaction returned (R12, R83; log 3). -/
  result : HostResult
  deriving DecidableEq, Repr

/-- The device just after INIT, for any value of the parameters (10_state.md R38, 44_host_queries.md R210), with the host's
remaining transactions `pending`. The values of `addr`, `rbuf`, `second`, `cmd`, `v` and `irq` are the spec's own choices
(D5 to D10; log 5). -/
def State.afterInit (params : Params) (pending : List TransactionWord) : State where
  vram := params.vramInit
  reg := Vector.replicate 8 0x00
  addr := 0x0000
  rbuf := 0x00
  second := false
  cmd := 0x0000
  v := 0
  vblank := true
  irq := false
  fb := Frame.black
  lbuf := Line.black
  life := .live
  params := params
  pending := pending
  result := .nothing

/-- The machine right after reset: INIT is the only reset (70_reset_and_hazards.md R260). The parameters have the defaults of
R10, VRAM_INIT the model's (log 6), and the host has issued nothing yet (log 1). -/
def State.reset : State := State.afterInit Params.default []

end Sys2Proof.Machine
end

