-- ==== Sys2Proof/Machine/Ops.lean ====
section
/-! DEFINITION. The shared operations: VRAM (20_memory.md), the address latch, the control latch, the registers, the line
buffer and the framebuffer, the lifecycle check, returning a result, and arming the interrupt. -/

namespace Sys2Proof.Machine

open Sys2Proof.Config

/-- The three outcomes of a transaction. -/
abbrev Result := Host.Outcome State Fault Refusal

/-! ### Memory as canonical data -/

/-- What an address that the list does not name reads as. DESIGN CHOICE (log 6). Any VRAM contents are still a memory: the
other bytes are listed. -/
def Memory.unlisted : Byte := 0x00

/-- The number of VRAM bytes (R9, R23). -/
abbrev Memory.size : Nat := 0x4000

/-- `m` is canonical from address `lo` on: rising addresses inside VRAM, and no entry equal to what an unlisted address
reads as. -/
def Memory.wfFrom (lo : Nat) : Memory → Bool
  | [] => true
  | (k, b) :: m => decide (lo ≤ k) && decide (k < Memory.size) && decide (b ≠ Memory.unlisted) && Memory.wfFrom (k + 1) m

/-- The canonical form: equal memories are equal lists. -/
def Memory.wf (m : Memory) : Bool := Memory.wfFrom 0 m

/-- The byte at key `k`. -/
def Memory.get : Memory → Nat → Byte
  | [], _ => Memory.unlisted
  | (k', b) :: m, k => if k = k' then b else Memory.get m k

/-- Put an entry in front, unless it says what an unlisted address reads as anyway. -/
def Memory.cons (k : Nat) (b : Byte) (m : Memory) : Memory :=
  if b = Memory.unlisted then m else (k, b) :: m

/-- Set the byte at key `k`. -/
def Memory.set : Memory → Nat → Byte → Memory
  | [], k, b => Memory.cons k b []
  | (k', b') :: m, k, b =>
    if k < k' then Memory.cons k b ((k', b') :: m)
    else if k = k' then Memory.cons k b m
    else (k', b') :: Memory.set m k b

/-- `MemRead(a, 1)` (00_scope.md R12): one byte; VRAM has no other access width (R61). -/
def Memory.read (m : Memory) (a : VramAddr) : Byte := Memory.get m a.toNat

/-- `MemWrite(a, 1, b)` (R12). -/
def Memory.write (m : Memory) (a : VramAddr) (b : Byte) : Memory := Memory.set m a.toNat b

/-- The VRAM byte at `a` (R12, R23). -/
def State.readVram (s : State) (a : VramAddr) : Byte := Memory.read s.vram a

/-- Write the VRAM byte at `a` (R12, R23). -/
def State.writeVram (s : State) (a : VramAddr) (b : Byte) : State := { s with vram := Memory.write s.vram a b }

/-! ### Registers and latches -/

/-- `R[n]` (R12, R21). -/
def State.readReg (s : State) (n : BitVec 3) : Byte := s.reg[n.toNat]'n.isLt

/-- `R[n] <- b` (R12, R21). -/
def State.writeReg (s : State) (n : BitVec 3) (b : Byte) : State := { s with reg := s.reg.set n.toNat b n.isLt }

/-- `S.addr <- (S.addr + 1) mod 0x4000` (20_memory.md R64): the latch has 14 bits. -/
def State.incAddr (s : State) : State := { s with addr := s.addr + 1 }

/-- `S.rbuf <- MemRead(S.addr, 1)`: the prefetch (R101, R107). -/
def State.prefetch (s : State) : State := { s with rbuf := s.readVram s.addr }

/-- `S.cmd <- (S.cmd & 0xFF00) | b` and `S.addr <- (S.addr & 0x3F00) | b` (R100). -/
def State.latchFirst (s : State) (b : Byte) : State :=
  { s with cmd := (s.cmd &&& 0xFF00) ||| b.setWidth 16, addr := (s.addr &&& 0x3F00) ||| b.setWidth 14 }

/-- `S.cmd <- (b << 8) | (S.cmd & 0x00FF)` (R103). -/
def State.latchSecond (s : State) (b : Byte) : State :=
  { s with cmd := (b.setWidth 16 <<< 8) ||| (s.cmd &&& 0x00FF) }

/-! ### Line buffer and framebuffer -/

/-- Set pixel `x` of a line. A coordinate outside the line is not drawn ("silently clipped", R68; never
exercised; log 19). -/
def Line.put (l : Line) (x : Nat) (c : RGB) : Line := if h : x < lineWidth then l.set x c h else l

/-- Set row `y` of a frame. A row outside the frame is not written (never exercised: R150 renders rows 0..191 only;
log 19). -/
def Frame.put (f : Frame) (y : Nat) (l : Line) : Frame := if h : y < frameHeight then f.set y l h else f

/-! ### Ending a transaction -/

/-- Complete with a result for the host: "`return v` gives the host the transaction's result" (R12). -/
def State.finish (r : HostResult) (s : State) : Result := .next { s with result := r }

/-- Every transaction but INIT runs only on a live device (44_host_queries.md R213). -/
def State.whenLive (s : State) (k : State → Result) : Result :=
  match s.life with
  | .live => k s
  | .absent => .refused .noDevice
  | .shut => .refused .deviceShut

/-- Arming the frame interrupt "changes only `S.irq`" (60_exceptions.md R235): the device's whole interrupt entry. Arming is
idempotent (R234). -/
def State.armIrq (s : State) : State := { s with irq := true }

end Sys2Proof.Machine
end

