-- ==== Sys2Proof/Machine/Lifecycle.lean ====
section
/-! DEFINITION. Lifecycle and host queries (44_host_queries.md). -/

namespace Sys2Proof.Machine

open Sys2Proof.Config

/-- INIT (R210): create the device, every field at its reset value. Only where no device exists (R213). -/
def execInit (s : State) : Result :=
  match s.life with
  | .absent => .next (State.afterInit s.params s.pending)
  | .live => .refused .deviceExists
  | .shut => .refused .deviceShut

/-- SHUTDOWN (R212): "`S.life <- SHUT`". -/
def execShutdown (s : State) : Result :=
  s.whenLive fun s => ({ s with life := .shut } : State).finish .nothing

/-- FB (R214): "`return S.fb`", at any time (D26; log 22). -/
def execFb (s : State) : Result := s.whenLive fun s => s.finish (.frame s.fb)

/-- WIDTH (R215). -/
def execWidth (s : State) : Result := s.whenLive fun s => s.finish (.number lineWidth)

/-- HEIGHT (R216). -/
def execHeight (s : State) : Result := s.whenLive fun s => s.finish (.number frameHeight)

/-- SPF (R217). -/
def execSpf (s : State) : Result := s.whenLive fun s => s.finish (.number scanlines)

end Sys2Proof.Machine
end

