-- ==== Sys2Proof/Machine/Operands.lean ====
section
/-! DEFINITION. The fields of the command word (30_encoding.md R85, R87) and the derived fields of the register file
(41_register_file.md R140..R144). -/

namespace Sys2Proof.Machine

/-! ### Command word -/

/-- VRAM setup address: `A = cmd & 0x3FFF` (R87). -/
def commandAddress (cmd : CommandWord) : VramAddr := cmd.extractLsb' 0 14

/-- Register index: `n = (cmd >> 8) & 0x07` (R87). -/
def commandIndex (cmd : CommandWord) : BitVec 3 := cmd.extractLsb' 8 3

/-- Register value: `val = cmd & 0xFF` (R87). -/
def commandValue (cmd : CommandWord) : Byte := cmd.extractLsb' 0 8

/-! ### Derived fields. The numbers are naturals, as in R11: "logical shifts of unbounded naturals". -/

/-- Register `n` as a natural. -/
def State.regNat (s : State) (n : BitVec 3) : Nat := (s.readReg n).toNat

/-- The mode index m (R140): `(((R1 >> 3) & 1) << 2) | (((R0 >> 1) & 1) << 1) | ((R1 >> 4) & 1)`. -/
def State.modeIndex (s : State) : Nat :=
  (((s.regNat 1 >>> 3) &&& 1) <<< 2) ||| (((s.regNat 0 >>> 1) &&& 1) <<< 1) ||| ((s.regNat 1 >>> 4) &&& 1)

/-- The mode a mode index stands for (R90, R153): 0, 1 and 2 are implemented; 4 is the Multicolor bit alone; the rest are
undocumented combinations (log 17). -/
def modeOf (m : Nat) : Mode :=
  match m with
  | 0 => .graphicsI
  | 1 => .text
  | 2 => .graphicsII
  | 4 => .multicolor
  | _ => .undocumented

/-- Pattern-name-table base: `(R2 & 0x0F) << 10` (R141). -/
def State.nameBase (s : State) : Nat := (s.regNat 2 &&& 0x0F) <<< 10

/-- Colour-table base: `R3 << 6` (R142). -/
def State.colorBase (s : State) : Nat := s.regNat 3 <<< 6

/-- Pattern-generator base: `(R4 & 0x07) << 11` (R143). -/
def State.patternBase (s : State) : Nat := (s.regNat 4 &&& 0x07) <<< 11

/-- Display enable, R1.6 (R144). -/
def State.displayEnable (s : State) : Bool := (s.readReg 1).getLsbD 6

/-- IE, the frame-interrupt enable: R1.5 (R144). -/
def State.interruptEnable (s : State) : Bool := (s.readReg 1).getLsbD 5

/-- Text colour: `R7 >> 4` (R144). -/
def State.textColor (s : State) : Nat := s.regNat 7 >>> 4

/-- Backdrop colour: `R7 & 0x0F` (R144). -/
def State.backdropColor (s : State) : Nat := s.regNat 7 &&& 0x0F

end Sys2Proof.Machine
end

