-- ==== Sys2Proof/Machine/Flags.lean ====
section
/-! DEFINITION. The one-bit state: the control-latch flag, the vblank flag and the interrupt-pending latch
(40_port_interface.md, 43_timing_interrupt.md R196). -/

namespace Sys2Proof.Machine

/-- "flip latch flag to second-phase" (R100). -/
def State.expectSecond (s : State) : State := { s with second := true }

/-- "reset the latch flag" (R103, R104, R107, R110). -/
def State.expectFirst (s : State) : State := { s with second := false }

/-- The status byte: bit 7 is the vblank flag, bits 6..0 always read 0 (R110, R111). -/
def statusByte (s : State) : Byte := if s.vblank then 0x80 else 0x00

/-- The flags after a status read (R110): vblank and the latch flag are cleared; the pending latch only where
STATUS_CLEARS_IRQ. -/
def State.acknowledge (s : State) : State :=
  { s with vblank := false, second := false, irq := if s.params.statusClearsIrq then false else s.irq }

/-- The vertical-blank boundary (R191): the flag is set, and the interrupt is armed if IE. -/
def State.enterVblank (s : State) : State :=
  let s := { s with vblank := true }
  if s.interruptEnable then s.armIrq else s

/-- Arming on a register write (R145): R1 written with bit 5 set while vblank is latched. An R1 write with bit 5 clear leaves
the latch (D20; log 16). -/
def State.armOnWrite (s : State) (n : BitVec 3) (val : Byte) : State :=
  if n = 1 ∧ s.vblank = true ∧ val.getLsbD 5 = true then s.armIrq else s

end Sys2Proof.Machine
end

