-- ==== Sys2Proof/Machine/Port.lean ====
section
/-! DEFINITION. The port interface (40_port_interface.md): the control port's first byte and VRAM setups, the data port and
the status read. The phase of a control byte is the decoder's to check (R84; log 13). -/

namespace Sys2Proof.Machine

/-- WC.FIRST (R100). -/
def execWcFirst (b : Byte) (s : State) : Result :=
  s.whenLive fun s => ((s.latchFirst b).expectSecond).finish .nothing

/-- WC.RSETUP (R101): latch the address, prefetch, increment, reset the latch flag. -/
def execWcRsetup (a : BitVec 6) (s : State) : Result :=
  s.whenLive fun s =>
    let s := s.latchSecond (setupByte 0b00 a)
    let s := { s with addr := commandAddress s.cmd }
    let s := s.prefetch
    let s := s.incAddr
    s.expectFirst.finish .nothing

/-- WC.WSETUP (R102): latch the address; no prefetch, no increment. -/
def execWcWsetup (a : BitVec 6) (s : State) : Result :=
  s.whenLive fun s =>
    let s := s.latchSecond (setupByte 0b01 a)
    let s := { s with addr := commandAddress s.cmd }
    s.expectFirst.finish .nothing

/-- WD (R104): store at the latch, copy into the read buffer, increment. -/
def execWd (b : Byte) (s : State) : Result :=
  s.whenLive fun s =>
    let s := s.expectFirst
    let s := s.writeVram s.addr b
    let s := { s with rbuf := b }
    s.incAddr.finish .nothing

/-- RD (R107): return the read buffer, prefetch at the latch, increment. -/
def execRd (s : State) : Result :=
  s.whenLive fun s =>
    let s := s.expectFirst
    let result := s.rbuf
    let s := s.prefetch
    s.incAddr.finish (.byte result)

/-- RS (R110): return the status byte, acknowledge. -/
def execRs (s : State) : Result :=
  s.whenLive fun s => s.acknowledge.finish (.byte (statusByte s))

end Sys2Proof.Machine
end

