-- ==== Sys2Proof/Machine/Registers.lean ====
section
/-! DEFINITION. The register-write command (41_register_file.md R130, R145), in its two spellings. -/

namespace Sys2Proof.Machine

/-- `RegWrite(n, val)` (R130). -/
def State.regWrite (s : State) (n : BitVec 3) (val : Byte) : State := (s.writeReg n val).armOnWrite n val

/-- The second byte `b` of a register write (R103, codes 2 and 3): the index and the value come from the command word. -/
def State.registerCommand (s : State) (b : Byte) : State :=
  let s := s.latchSecond b
  (s.regWrite (commandIndex s.cmd) (commandValue s.cmd)).expectFirst

/-- WC.REG (R130), command code 2. -/
def execWcReg (x r : BitVec 3) (s : State) : Result :=
  s.whenLive fun s => (s.registerCommand (registerByte 0b10 x r)).finish .nothing

/-- WC.REG3 (R130), command code 3: "identical to code 2" (R86). -/
def execWcReg3 (x r : BitVec 3) (s : State) : Result :=
  s.whenLive fun s => (s.registerCommand (registerByte 0b11 x r)).finish .nothing

end Sys2Proof.Machine
end

