-- ==== Sys2Proof/Machine/Renderer.lean ====
section
/-! DEFINITION. The scanline renderer (42_renderer.md): palette, colour resolution, the three pixel decoders, the commit. -/

namespace Sys2Proof.Machine

open Sys2Proof.Config

/-! ### Colours -/

/-- `PAL` (R151). Index 0 is transparent and never looked up (R152); the black here is not read. -/
def palette (i : Nat) : RGB :=
  match i with
  | 1 => ⟨0, 0, 0⟩
  | 2 => ⟨33, 200, 66⟩
  | 3 => ⟨94, 200, 120⟩
  | 4 => ⟨84, 85, 237⟩
  | 5 => ⟨125, 118, 252⟩
  | 6 => ⟨212, 82, 77⟩
  | 7 => ⟨66, 235, 245⟩
  | 8 => ⟨252, 85, 84⟩
  | 9 => ⟨255, 121, 120⟩
  | 10 => ⟨212, 193, 84⟩
  | 11 => ⟨230, 206, 128⟩
  | 12 => ⟨33, 176, 59⟩
  | 13 => ⟨201, 91, 186⟩
  | 14 => ⟨204, 204, 204⟩
  | 15 => ⟨255, 255, 255⟩
  | _ => RGB.black

/-- `BackRGB` (R152): the backdrop colour, or TRANSPARENT_RGB where its index is 0. -/
def State.backRgb (s : State) : RGB :=
  if s.backdropColor ≠ 0 then palette s.backdropColor else s.params.transparentRgb

/-- `Colour(i)` (R152): the index masked to 4 bits, index 0 showing the backdrop. -/
def State.colour (s : State) (i : Nat) : RGB :=
  let j := i &&& 0x0F
  if j ≠ 0 then palette j else s.backRgb

/-! ### Reading VRAM and patterns -/

/-- `MemRead(a, 1)` at an address the renderer computed. Such an address is at most 0x3FFF (20_memory.md R68; stated as
Obligations.RendererAddressesStayInVram), so the reduction to 14 bits changes nothing (log 18). -/
def State.fetch (s : State) (a : Nat) : Nat := (s.readVram (BitVec.ofNat 14 a)).toNat

/-- Pixel `p` of a pattern byte: bit 7 - p, so bit 7 is the leftmost (R62, R94). -/
def patternBit (pattern p : Nat) : Bool := decide ((pattern >>> (7 - p)) &&& 1 = 1)

/-- The palette index of pixel `p` of a cell with a colour byte (R162, R174): bits 7..4 foreground, 3..0 background. -/
def tileIndex (pattern color p : Nat) : Nat :=
  if patternBit pattern p then color >>> 4 else color &&& 0x0F

/-- The palette index of pixel `p` of a Text cell (R165, R167). -/
def State.textIndex (s : State) (pattern p : Nat) : Nat :=
  if patternBit pattern p then s.textColor else s.backdropColor

/-! ### Table addresses -/

/-- Graphics I name byte of column `c` on line `v` (R163), also Graphics II (R174). -/
def State.gridNameAddr (s : State) (v c : Nat) : Nat := s.nameBase + (v >>> 3) * 32 + c

/-- Text name byte of column `c` on line `v` (R166). -/
def State.textNameAddr (s : State) (v c : Nat) : Nat := s.nameBase + (v >>> 3) * 40 + c

/-- Pattern byte of name `name` on line `v`, Graphics I and Text (R163, R166). -/
def State.patternAddr (s : State) (v name : Nat) : Nat := s.patternBase + name * 8 + (v &&& 7)

/-- Graphics I colour byte of name `name`: one for eight names (R163). -/
def State.colorAddr (s : State) (name : Nat) : Nat := s.colorBase + (name >>> 3)

/-- Graphics II table offset (R174): the bank `v >> 6`, the name, the row in the tile. -/
def g2Offset (v name : Nat) : Nat := ((v >>> 6) <<< 11) ||| (name <<< 3) ||| (v &&& 7)

/-- `G2PatAddr(off)` (R175). -/
def State.g2PatternAddr (s : State) (off : Nat) : Nat :=
  ((s.regNat 4 &&& 0x04) <<< 11) ||| (off &&& (((s.regNat 4 &&& 0x03) <<< 11) ||| 0x07FF))

/-- `G2ColAddr(off)` (R176). -/
def State.g2ColorAddr (s : State) (off : Nat) : Nat :=
  ((s.regNat 3 &&& 0x80) <<< 6) ||| (off &&& (((s.regNat 3 &&& 0x7F) <<< 6) ||| 0x003F))

/-! ### Overlays on the line buffer -/

/-- Draw `n` pixels from column `x0` on: `for p in 0..n-1: lbuf[x0 + p] <- px p`. -/
def Line.drawCell (l : Line) (x0 n : Nat) (px : Nat → RGB) : Line :=
  (List.range n).foldl (fun l p => l.put (x0 + p) (px p)) l

/-- Draw the cells of a line: `for c in 0..n-1`. -/
def Line.drawCells (l : Line) (n : Nat) (cell : Line → Nat → Line) : Line :=
  (List.range n).foldl cell l

/-- One Graphics I cell (R162). -/
def State.cellGraphicsI (s : State) (v : Nat) (l : Line) (c : Nat) : Line :=
  let name := s.fetch (s.gridNameAddr v c)
  let pattern := s.fetch (s.patternAddr v name)
  let color := s.fetch (s.colorAddr name)
  l.drawCell (c * 8) 8 fun p => s.colour (tileIndex pattern color p)

/-- One Text cell (R165): six pixels, after a margin of eight. -/
def State.cellText (s : State) (v : Nat) (l : Line) (c : Nat) : Line :=
  let name := s.fetch (s.textNameAddr v c)
  let pattern := s.fetch (s.patternAddr v name)
  l.drawCell (c * 6 + 8) 6 fun p => s.colour (s.textIndex pattern p)

/-- One Graphics II cell (R174). -/
def State.cellGraphicsII (s : State) (v : Nat) (l : Line) (c : Nat) : Line :=
  let name := s.fetch (s.gridNameAddr v c)
  let off := g2Offset v name
  let pattern := s.fetch (s.g2PatternAddr off)
  let color := s.fetch (s.g2ColorAddr off)
  l.drawCell (c * 8) 8 fun p => s.colour (tileIndex pattern color p)

/-- The Graphics II overlay, as GFX2_MODEL selects it (R174, R178). -/
def State.overlayGraphicsII (s : State) (v : Nat) (l : Line) : Line :=
  match s.params.gfx2Model with
  | .datasheet => l.drawCells 32 (s.cellGraphicsII v)
  | .backdropStub => l

/-- Mode dispatch (R153). An unimplemented mode draws nothing over the backdrop (R170). -/
def State.overlay (s : State) (v : Nat) (l : Line) : Line :=
  match modeOf s.modeIndex with
  | .graphicsI => l.drawCells 32 (s.cellGraphicsI v)
  | .text => l.drawCells 40 (s.cellText v)
  | .graphicsII => s.overlayGraphicsII v l
  | .multicolor => l
  | .undocumented => l

/-! ### The render of one line (R150): backdrop fill, overlay if the display is enabled, commit -/

/-- Backdrop fill (R160). -/
def State.fillBackdrop (s : State) : State := { s with lbuf := Line.filled s.backRgb }

/-- The mode overlay, if the display is enabled (R161). -/
def State.drawOverlay (s : State) (v : Nat) : State :=
  if s.displayEnable then { s with lbuf := s.overlay v s.lbuf } else s

/-- Commit the line buffer into framebuffer row `v` and clear it to black (R180). -/
def State.commit (s : State) (v : Nat) : State := { s with fb := s.fb.put v s.lbuf, lbuf := Line.black }

/-- `RenderLine(v)` (R150). -/
def State.renderLine (s : State) (v : Nat) : State := (s.fillBackdrop.drawOverlay v).commit v

end Sys2Proof.Machine
end

