-- ==== Sys2Proof/Machine/Timing.lean ====
section
/-! DEFINITION. The timing unit and the interrupt query (43_timing_interrupt.md). -/

namespace Sys2Proof.Machine

open Sys2Proof.Config

/-- `S.v <- (S.v + 1) mod 262` (R193). -/
def State.nextLine (s : State) : State := { s with v := (s.v + 1) % scanlines }

/-- TICK (R190): the vertical-blank boundary at v = 192 (R191), a rendered line below it (R192), and the counter. It changes
no port state (D19; log 16). -/
def execTick (s : State) : Result :=
  s.whenLive fun s =>
    let s := if s.v = vblankLine then s.enterVblank else s
    let s := if s.v < frameHeight then s.renderLine s.v else s
    s.nextLine.finish .nothing

/-- CI (R195): return the pending latch and clear it. It changes nothing else (D18; log 16). -/
def execCi (s : State) : Result :=
  s.whenLive fun s =>
    let result := s.irq
    ({ s with irq := false } : State).finish (.bool result)

end Sys2Proof.Machine
end

