-- ==== Sys2Proof/Machine/Dispatch.lean ====
section
/-! DEFINITION. The one dispatch from a transaction to its meaning. -/

namespace Sys2Proof.Machine

def exec (i : Instr) (s : State) : Host.Outcome State Fault Refusal :=
  match i with
  | .init => Sys2Proof.Machine.execInit s
  | .shutdown => Sys2Proof.Machine.execShutdown s
  | .wcFirst b => Sys2Proof.Machine.execWcFirst b s
  | .wcRsetup a => Sys2Proof.Machine.execWcRsetup a s
  | .wcWsetup a => Sys2Proof.Machine.execWcWsetup a s
  | .wcReg x r => Sys2Proof.Machine.execWcReg x r s
  | .wcReg3 x r => Sys2Proof.Machine.execWcReg3 x r s
  | .wd b => Sys2Proof.Machine.execWd b s
  | .rd => Sys2Proof.Machine.execRd s
  | .rs => Sys2Proof.Machine.execRs s
  | .tick => Sys2Proof.Machine.execTick s
  | .ci => Sys2Proof.Machine.execCi s
  | .fb => Sys2Proof.Machine.execFb s
  | .width => Sys2Proof.Machine.execWidth s
  | .height => Sys2Proof.Machine.execHeight s
  | .spf => Sys2Proof.Machine.execSpf s

end Sys2Proof.Machine
end

