-- ==== Sys2Proof/Machine/Step.lean ====
section
/-! DEFINITION. One step: the oldest transaction the host has issued runs to completion (20_memory.md R66). -/

namespace Sys2Proof.Machine

/-- One step. The oldest pending word is taken, decoded by the control-latch flag (30_encoding.md R84) and executed. A word
that is no transaction is refused (R82). With nothing pending the device stays as it is: it "never steps on its own"
(00_scope.md R8; log 2). -/
def step (s : State) : Host.Outcome State Fault Refusal :=
  match s.pending with
  | [] => .next s
  | w :: rest =>
    match decode s.second w with
    | .ok i => exec i { s with pending := rest }
    | .error (.noSuchTransaction k) => .refused (.noSuchTransaction k)

/-- The state with a program placed as the host's pending transactions (30_encoding.md R91, R92; log 1). -/
def State.withProgram (s : State) (p : List ProgramLine) : State := { s with pending := expandProgram p }

/-- The state in which a word of the opcode table is the next transaction. A control-port word is read in the phase
`tablePhase` (log 12), so the control-latch flag is set with it; no other word depends on the flag (R84). -/
def State.withFetchWord (s : State) (nbits w : Nat) : State :=
  let word : TransactionWord := BitVec.ofNat 12 (w % 2 ^ nbits)
  { s with
    pending := word :: s.pending
    second := if word.kind = 0x2 then tablePhase else s.second }

end Sys2Proof.Machine
end

