-- ==== Sys2Proof/Safety.lean ====
section
/-! DEFINITION. The terms the claims use: runs, the invariant, the closed form of a pixel (42_renderer.md R182), the spec's
plain reading of a tile, and the interrupt table (43_timing_interrupt.md R196). None of it is part of the machine. -/

namespace Sys2Proof.Safety

open Sys2Proof.Machine Sys2Proof.Config

/-! ### Runs -/

/-- `n` steps, stopping at the first refusal. -/
def run : Nat → State → Result
  | 0, s => .next s
  | n + 1, s =>
    match step s with
    | .next s' => run n s'
    | .fault r => .fault r
    | .refused r => .refused r

/-- A run is safe if none of its steps is refused (R13). -/
def SafeRun (n : Nat) (s : State) : Prop := ∃ t, run n s = .next t

/-- A transaction that moves neither the latch, nor the read buffer, nor VRAM, or that is a `read_data`: RD, RS, TICK, CI, FB,
WIDTH, HEIGHT, SPF (R80). -/
def readOrQuiet (w : TransactionWord) : Bool := decide (4 ≤ w.kind.toNat) && decide (w.kind.toNat ≤ 11)

/-- How many of the words are `read_data`. -/
def readCount (ws : List TransactionWord) : Nat := ws.countP fun w => w.kind == 0x4

/-! ### The invariant -/

/-- What holds after INIT and after every step: VRAM and VRAM_INIT are canonical, the scanline counter is in 0..261 (R39 item
5), and the line buffer is black between transactions (R32). The latch's range (R39 item 1) is its type. -/
abbrev Inv (s : State) : Prop :=
  Memory.wf s.vram = true ∧ Memory.wf s.params.vramInit = true ∧ s.v < scanlines ∧ s.lbuf = Line.black

/-! ### The closed form of a pixel (R182) -/

/-- The index of pixel `p` in Graphics I cell `c` of line `v` (R162). -/
def indexGraphicsI (s : State) (v c p : Nat) : Nat :=
  let name := s.fetch (s.gridNameAddr v c)
  tileIndex (s.fetch (s.patternAddr v name)) (s.fetch (s.colorAddr name)) p

/-- The index of pixel `p` in Text cell `c` of line `v` (R165). -/
def indexText (s : State) (v c p : Nat) : Nat :=
  s.textIndex (s.fetch (s.patternAddr v (s.fetch (s.textNameAddr v c)))) p

/-- The index of pixel `p` in Graphics II cell `c` of line `v` (R174). -/
def indexGraphicsII (s : State) (v c p : Nat) : Nat :=
  let off := g2Offset v (s.fetch (s.gridNameAddr v c))
  tileIndex (s.fetch (s.g2PatternAddr off)) (s.fetch (s.g2ColorAddr off)) p

/-- `Pixel(VRAM, R, v, x)` (R182). -/
def pixel (s : State) (v x : Nat) : RGB :=
  if s.displayEnable = false then s.backRgb
  else match s.modeIndex with
    | 0 => s.colour (indexGraphicsI s v (x >>> 3) (x &&& 7))
    | 1 => if x < 8 ∨ x ≥ 248 then s.backRgb else s.colour (indexText s v ((x - 8) / 6) ((x - 8) % 6))
    | 2 =>
      match s.params.gfx2Model with
      | .datasheet => s.colour (indexGraphicsII s v (x >>> 3) (x &&& 7))
      | .backdropStub => s.backRgb
    | _ => s.backRgb

/-! ### A tile in plain arithmetic, apart from the renderer's own functions -/

/-- Register `n` as a number. -/
def regN (s : State) (n : BitVec 3) : Nat := (s.readReg n).toNat

/-- The VRAM byte at `a` as a number. -/
def byteN (s : State) (a : Nat) : Nat := (s.readVram (BitVec.ofNat 14 a)).toNat

/-- Bit `7 - p` of a byte (R94). -/
abbrev pixelSet (byte p : Nat) : Prop := byte / 2 ^ (7 - p) % 2 = 1

/-- The colour shown for a palette index: the palette's, index 0 the backdrop's, and TRANSPARENT_RGB where that is 0 too
(R152). -/
def shown (s : State) (i : Nat) : RGB :=
  if i ≠ 0 then palette i
  else if regN s 7 % 16 ≠ 0 then palette (regN s 7 % 16) else s.params.transparentRgb

/-! ### The interrupt state machine (R196) -/

/-- `(vblank, irq)` after a transaction of `i` from `s`, row by row of R196. -/
def interruptAfter (i : Instr) (s : State) : Bool × Bool :=
  match i with
  | .tick => if s.v = 192 then (true, s.irq || (s.readReg 1).getLsbD 5) else (s.vblank, s.irq)
  | .wcReg _ r => if r = 1 then (s.vblank, s.irq || (s.vblank && s.cmd.getLsbD 5)) else (s.vblank, s.irq)
  | .wcReg3 _ r => if r = 1 then (s.vblank, s.irq || (s.vblank && s.cmd.getLsbD 5)) else (s.vblank, s.irq)
  | .rs => (false, s.irq && !s.params.statusClearsIrq)
  | .ci => (s.vblank, false)
  | .init => (true, false)
  | .wcFirst _ => (s.vblank, s.irq)
  | .wcRsetup _ => (s.vblank, s.irq)
  | .wcWsetup _ => (s.vblank, s.irq)
  | .wd _ => (s.vblank, s.irq)
  | .rd => (s.vblank, s.irq)
  | .fb => (s.vblank, s.irq)
  | .width => (s.vblank, s.irq)
  | .height => (s.vblank, s.irq)
  | .spf => (s.vblank, s.irq)
  | .shutdown => (s.vblank, s.irq)

end Sys2Proof.Safety
end

