-- ==== Sys2Proof/Certificates/Slice0/Obligations.lean ====
section
/-! DEFINITION. The statements for the provers. Each docstring names the rule it formalises; OBLIGATIONS.json lists them. -/

open Sys2Proof Sys2Proof.Machine Sys2Proof.Config Sys2Proof.Safety

/-! ### Encoding -/

/-- Every transaction, with every operand, is decoded back from its word in the phase it belongs to (R80 to R88;
the numbering of the kinds is the spec's own choice D2, log 11). -/
def Obligations.EncodeThenDecodeIsIdentity : Prop :=
  ∀ (second : Bool) (i : Instr), i.wellFormed second = true → decode second (encode i) = .ok i

/-- What the decoder gives is well formed in the phase it was read in, has the word's kind, and encodes to the word again,
but for the operand byte a kind without operand ignores, which is written as 0x00 (R81, the spec's own choice D2, log 11;
R84). -/
def Obligations.DecodeThenEncodeKeepsWord : Prop :=
  ∀ (second : Bool) (w : TransactionWord) (i : Instr), decode second w = .ok i →
    i.wellFormed second = true ∧ (encode i).kind = w.kind ∧
      (w.kind = 0x2 ∨ w.kind = 0x3 → encode i = w) ∧
      (w.kind ≠ 0x2 → w.kind ≠ 0x3 → (encode i).operand = 0x00)

/-- Words written out from R80 (the spec's own numbering D2, log 11), R86 and R88, bit by bit, decode to the transactions they stand for. -/
def Obligations.WrittenOutWordsDecode : Prop :=
  decode false 0b000000000000 = .ok .init ∧
  decode false 0b001001010110 = .ok (.wcFirst 0x56) ∧
  decode true 0b001000000001 = .ok (.wcRsetup 0b000001) ∧
  decode true 0b001001000001 = .ok (.wcWsetup 0b000001) ∧
  decode true 0b001010111010 = .ok (.wcReg 0b111 0b010) ∧
  decode true 0b001011000111 = .ok (.wcReg3 0b000 0b111) ∧
  decode true 0b001101011010 = .ok (.wd 0x5A) ∧
  decode false 0b011000000000 = .ok .tick

/-- R84 and R86: a control byte is a first byte or a second byte by the latch flag alone, a second byte is read by its
command code, and no other transaction depends on the flag. -/
def Obligations.ControlByteIsReadByPhaseAndCode : Prop :=
  (∀ b : Byte, decode false (transactionWord 0x2 b) = .ok (.wcFirst b)) ∧
  (∀ b : Byte, b.toNat / 64 = 0 → decode true (transactionWord 0x2 b) = .ok (.wcRsetup (b.setWidth 6))) ∧
  (∀ b : Byte, b.toNat / 64 = 1 → decode true (transactionWord 0x2 b) = .ok (.wcWsetup (b.setWidth 6))) ∧
  (∀ b : Byte, b.toNat / 64 = 2 →
    decode true (transactionWord 0x2 b) = .ok (.wcReg (BitVec.ofNat 3 (b.toNat / 8)) (b.setWidth 3))) ∧
  (∀ b : Byte, b.toNat / 64 = 3 →
    decode true (transactionWord 0x2 b) = .ok (.wcReg3 (BitVec.ofNat 3 (b.toNat / 8)) (b.setWidth 3))) ∧
  (∀ w : TransactionWord, w.kind ≠ 0x2 → decode true w = decode false w)

/-! ### The step -/

/-- A step runs the transaction its oldest pending word decodes to, with that word taken (R66, R84). -/
def Obligations.StepRunsDecodedTransaction : Prop :=
  ∀ (s : State) (w : TransactionWord) (rest : List TransactionWord) (i : Instr),
    s.pending = w :: rest → decode s.second w = .ok i → step s = exec i { s with pending := rest }

/-- With nothing pending a step changes nothing. The model's reading (log 2) of R8's "The device never steps on its own". -/
def Obligations.StepWithoutTransactionChangesNothing : Prop :=
  ∀ s : State, s.pending = [] → step s = .next s

/-- Kinds 0xC to 0xF are refused, in every state and phase, and no other word is refused for its kind (R82, the spec's own
choice D2). -/
def Obligations.UndefinedKindsAreRefused : Prop :=
  ∀ (s : State) (w : TransactionWord) (rest : List TransactionWord), s.pending = w :: rest →
    (step s = .refused (.noSuchTransaction w.kind) ↔ 12 ≤ w.kind.toNat)

/-! ### Lifecycle and queries -/

/-- INIT where no device exists completes with every field as in R38. The values of addr, rbuf, second, cmd, v and irq are the
spec's own choices D5 to D10 (log 5); VRAM is the parameter VRAM_INIT, whatever it is; what the host has pending stays. -/
def Obligations.InitCreatesTheDevice : Prop :=
  ∀ s : State, s.life = .absent → ∃ t, exec .init s = .next t ∧
    (∀ a, t.readVram a = Memory.read s.params.vramInit a) ∧ (∀ n, t.readReg n = 0x00) ∧
    t.addr = 0 ∧ t.rbuf = 0 ∧ t.cmd = 0 ∧ t.second = false ∧ t.v = 0 ∧ t.vblank = true ∧ t.irq = false ∧
    (∀ y (hy : y < frameHeight) x (hx : x < lineWidth), ((t.fb[y]'hy)[x]'hx) = ⟨0, 0, 0⟩) ∧
    (∀ x (hx : x < lineWidth), (t.lbuf[x]'hx) = ⟨0, 0, 0⟩) ∧
    t.life = .live ∧ t.params = s.params ∧ t.pending = s.pending ∧ t.result = .nothing

/-- The state after reset is the device of R38, live, with no interrupt enabled and the display off. The values of addr, rbuf,
second, cmd, v and irq are the spec's own choices D5 to D10 (log 5). -/
def Obligations.ResetStateHasTheSpecsValues : Prop :=
  (∀ n, State.reset.readReg n = 0x00) ∧ State.reset.vblank = true ∧ State.reset.irq = false ∧
    State.reset.addr = 0 ∧ State.reset.rbuf = 0 ∧ State.reset.cmd = 0 ∧ State.reset.second = false ∧
    State.reset.v = 0 ∧ State.reset.life = .live ∧ State.reset.lbuf = Line.filled ⟨0, 0, 0⟩ ∧
    (∀ y (hy : y < frameHeight), (State.reset.fb[y]'hy) = Line.filled ⟨0, 0, 0⟩) ∧
    State.reset.displayEnable = false ∧ State.reset.interruptEnable = false ∧ State.reset.modeIndex = 0

/-- SHUTDOWN ends the lifetime and changes nothing else (R212, the spec's own choice D17, log 14). -/
def Obligations.ShutdownOnlyEndsTheLifetime : Prop :=
  ∀ s : State, s.life = .live → exec .shutdown s = .next { s with life := .shut, result := .nothing }

/-- R213 (the spec's own choice D17): after SHUTDOWN every transaction is refused; before INIT every other one; INIT on a live
device. -/
def Obligations.OutsideTheLifetimeIsRefused : Prop :=
  ∀ (i : Instr) (s : State),
    (s.life = .shut → exec i s = .refused .deviceShut) ∧
    (s.life = .absent → i ≠ .init → exec i s = .refused .noDevice) ∧
    (s.life = .live → i = .init → exec i s = .refused .deviceExists)

/-- On a live device every transaction but INIT completes, whatever the state (R230: no condition is an error; R239). -/
def Obligations.LiveDeviceCompletesEveryTransaction : Prop :=
  ∀ (i : Instr) (s : State), s.life = .live → i ≠ .init → ∃ t, exec i s = .next t

/-- R215, R216, R217: the three constants, their kinds, and that nothing else changes. That every operand byte decodes to them
is the ignored operand byte of R81, the spec's own choice D2 (log 11). -/
def Obligations.QueriesReturnTheConstants : Prop :=
  (∀ s : State, s.life = .live →
    exec .width s = .next { s with result := .number 256 } ∧
    exec .height s = .next { s with result := .number 192 } ∧
    exec .spf s = .next { s with result := .number 262 }) ∧
  (∀ (second : Bool) (b : Byte),
    decode second (transactionWord 0x9 b) = .ok .width ∧
    decode second (transactionWord 0xA b) = .ok .height ∧
    decode second (transactionWord 0xB b) = .ok .spf)

/-- FB returns the framebuffer as it stands, at any time, and changes nothing else (R214; at any time is the spec's D26). -/
def Obligations.FramebufferQueryReturnsTheFrame : Prop :=
  ∀ s : State, s.life = .live → exec .fb s = .next { s with result := .frame s.fb }

/-! ### Port interface -/

/-- R100: a control byte read as a first byte goes into the low half of the command word and of the latch at once; nothing else changes
but the latch flag. -/
def Obligations.FirstControlByteSetsTheLowHalves : Prop :=
  ∀ (b : Byte) (s : State), s.life = .live →
    decode false (transactionWord 0x2 b) = .ok (.wcFirst b) ∧
    exec (.wcFirst b) s = .next { s with
      cmd := s.cmd.extractLsb' 8 8 ++ b
      addr := s.addr.extractLsb' 8 6 ++ b
      second := true
      result := .nothing }

/-- R101: a read setup to A prefetches VRAM[A], leaves the latch at A + 1 modulo 0x4000 and resets the latch flag; A is the
six bits of the second byte over the first byte. -/
def Obligations.ReadSetupPrefetchesAndIncrements : Prop :=
  ∀ (a : BitVec 6) (s : State), s.life = .live →
    decode true (transactionWord 0x2 ((0b00 : BitVec 2) ++ a : BitVec 8)) = .ok (.wcRsetup a) ∧
    exec (.wcRsetup a) s = .next { s with
      cmd := ((0b00 : BitVec 2) ++ a : BitVec 8) ++ s.cmd.extractLsb' 0 8
      rbuf := s.readVram (a ++ s.cmd.extractLsb' 0 8)
      addr := BitVec.ofNat 14 ((a.toNat * 256 + s.cmd.toNat % 256 + 1) % 0x4000)
      second := false
      result := .nothing }

/-- R102: a write setup to A sets the latch to A and resets the latch flag: no prefetch, no increment. -/
def Obligations.WriteSetupSetsTheLatchOnly : Prop :=
  ∀ (a : BitVec 6) (s : State), s.life = .live →
    decode true (transactionWord 0x2 ((0b01 : BitVec 2) ++ a : BitVec 8)) = .ok (.wcWsetup a) ∧
    exec (.wcWsetup a) s = .next { s with
      cmd := ((0b01 : BitVec 2) ++ a : BitVec 8) ++ s.cmd.extractLsb' 0 8
      addr := a ++ s.cmd.extractLsb' 0 8
      second := false
      result := .nothing }

/-- R104: WD stores at the latch and nowhere else, copies the byte into the read buffer, and moves the latch on by one modulo
0x4000. The store is read back wherever VRAM is canonical, which the invariant keeps. -/
def Obligations.WriteDataStoresAtTheLatch : Prop :=
  ∀ (b : Byte) (s : State), s.life = .live →
    decode s.second (transactionWord 0x3 b) = .ok (.wd b) ∧ ∃ t, exec (.wd b) s = .next t ∧
    t = { s with
      vram := t.vram
      rbuf := b
      addr := BitVec.ofNat 14 ((s.addr.toNat + 1) % 0x4000)
      second := false
      result := .nothing } ∧
    (Memory.wf s.vram = true → t.readVram s.addr = b) ∧
    ∀ a : VramAddr, a ≠ s.addr → t.readVram a = s.readVram a

/-- R107: RD returns the read buffer, reloads it from the latch and moves the latch on by one modulo 0x4000. That every
operand byte decodes to RD is the ignored operand byte of R81, the spec's own choice D2 (log 11). -/
def Obligations.ReadDataReturnsTheBuffer : Prop :=
  ∀ s : State, s.life = .live →
    (∀ b : Byte, decode s.second (transactionWord 0x4 b) = .ok .rd) ∧
    exec .rd s = .next { s with
      rbuf := s.readVram s.addr
      addr := BitVec.ofNat 14 ((s.addr.toNat + 1) % 0x4000)
      second := false
      result := .byte s.rbuf }

/-- R110 and R111: RS returns the vblank flag in bit 7 with zeros below, and clears vblank and the latch flag, and the pending
latch only where STATUS_CLEARS_IRQ, for either value of that parameter (D13, log 8). -/
def Obligations.ReadStatusClearsVblankAndLatchFlag : Prop :=
  ∀ s : State, s.life = .live →
    exec .rs s = .next { s with
      vblank := false
      second := false
      irq := s.irq && !s.params.statusClearsIrq
      result := .byte (if s.vblank then 0x80 else 0x00) }

/-- R108, between a read setup and a read with only reads and quiet transactions in between: the read number `readCount ws + 1`
returns the byte at A plus the reads before it, modulo 0x4000. (R108 also lets other control writes stand in between; a first
control byte moves the latch by R100, so they are not allowed here.) -/
def Obligations.ReadSequenceReturnsSuccessiveBytes : Prop :=
  ∀ (s : State) (a : VramAddr) (ws rest : List TransactionWord),
    s.life = .live → s.second = false → (∀ w ∈ ws, readOrQuiet w = true) →
    s.pending = (ProgramItem.setr a).expand ++ ws ++ encode .rd :: rest →
    ∃ t, run (ws.length + 3) s = .next t ∧ t.pending = rest ∧
      t.result = .byte (s.readVram (BitVec.ofNat 14 ((a.toNat + readCount ws) % 0x4000)))

/-- R243: the VRAM dump. A read setup to 0 and 16,384 reads return every byte in order, and leave the latch at 1, the buffer
with VRAM[0] and the latch flag reset. -/
def Obligations.VramDumpReturnsEveryByteInOrder : Prop :=
  ∀ (s : State) (rest : List TransactionWord), s.life = .live → s.second = false →
    s.pending = (ProgramItem.setr 0).expand ++ List.replicate 16384 (encode .rd) ++ rest →
    (∀ k, k < 16384 → ∃ u, run (2 + (k + 1)) s = .next u ∧ u.result = .byte (s.readVram (BitVec.ofNat 14 k))) ∧
    ∃ t, run (2 + 16384) s = .next t ∧ t.pending = rest ∧ t.addr = 1 ∧ t.rbuf = s.readVram 0 ∧ t.second = false

/-- R112 item 1: a byte written after a write setup is the first byte read after a read setup to the same address, and the
next read returns the byte after it. -/
def Obligations.WrittenByteIsReadBack : Prop :=
  ∀ (s : State) (a : VramAddr) (b : Byte) (rest : List TransactionWord),
    s.life = .live → s.second = false → Memory.wf s.vram = true →
    s.pending = (ProgramItem.setw a).expand ++ [encode (.wd b)] ++ (ProgramItem.setr a).expand ++
      [encode .rd, encode .rd] ++ rest →
    (∃ t, run 6 s = .next t ∧ t.result = .byte b) ∧
    ∃ t, run 7 s = .next t ∧ t.pending = rest ∧
      t.result = .byte (s.readVram (BitVec.ofNat 14 ((a.toNat + 1) % 0x4000)))

/-- R112 item 2: writing one byte to all 16,384 addresses and reading all of them back. -/
def Obligations.FullMemoryRoundTrip : Prop :=
  ∀ (s : State) (b : Byte) (rest : List TransactionWord),
    s.life = .live → s.second = false → Memory.wf s.vram = true →
    s.pending = (ProgramItem.setw 0).expand ++ List.replicate 16384 (encode (.wd b)) ++ (ProgramItem.setr 0).expand ++
      List.replicate 16384 (encode .rd) ++ rest →
    (∃ t, run (2 + 16384) s = .next t ∧ t.addr = 0 ∧ ∀ a, t.readVram a = b) ∧
    ∀ k, k < 16384 → ∃ t, run (2 + 16384 + 2 + (k + 1)) s = .next t ∧ t.result = .byte b

/-- R89: a data access or a status read between the two bytes of a pair abandons it. The first byte's effects remain, and the
next control byte, `b'`, is a first byte again. -/
def Obligations.InterruptedPairIsAbandoned : Prop :=
  ∀ (s : State) (b b' : Byte) (x : Instr) (rest : List TransactionWord),
    s.life = .live → s.second = false → (x = .rd ∨ x = .rs ∨ ∃ d, x = .wd d) →
    s.pending = transactionWord 0x2 b :: encode x :: transactionWord 0x2 b' :: rest →
    (∃ t, run 1 s = .next t ∧ t.second = true ∧ t.cmd.extractLsb' 0 8 = b ∧ t.addr.extractLsb' 0 8 = b) ∧
    (∃ t, run 2 s = .next t ∧ t.second = false ∧ t.cmd.extractLsb' 0 8 = b ∧
      t.addr = (if x = .rs then s.addr.extractLsb' 8 6 ++ b else (s.addr.extractLsb' 8 6 ++ b) + 1)) ∧
    ∃ t, run 3 s = .next t ∧ t.pending = rest ∧ t.second = true ∧ t.cmd.extractLsb' 0 8 = b' ∧
      t.addr.extractLsb' 0 8 = b' ∧ t.reg = s.reg

/-! ### Register file -/

/-- R130 and R103, both command codes, every value of the ignored bits: the register takes the first byte, R1 may arm the
interrupt, and nothing else changes but the command word and the latch flag. That bit 5 clear leaves the pending latch is the
spec's own choice D20 (log 16). -/
def Obligations.RegisterWriteStoresTheFirstByte : Prop :=
  ∀ (x r : BitVec 3) (s : State), s.life = .live →
    exec (.wcReg x r) s = .next { s with
      reg := s.reg.set r.toNat (s.cmd.extractLsb' 0 8) r.isLt
      cmd := ((0b10 : BitVec 2) ++ x ++ r : BitVec 8) ++ s.cmd.extractLsb' 0 8
      irq := s.irq || (decide (r = 1) && s.vblank && s.cmd.getLsbD 5)
      second := false
      result := .nothing } ∧
    exec (.wcReg3 x r) s = .next { s with
      reg := s.reg.set r.toNat (s.cmd.extractLsb' 0 8) r.isLt
      cmd := ((0b11 : BitVec 2) ++ x ++ r : BitVec 8) ++ s.cmd.extractLsb' 0 8
      irq := s.irq || (decide (r = 1) && s.vblank && s.cmd.getLsbD 5)
      second := false
      result := .nothing }

/-- R92, R130: the two words of SETREG write the register, and leave the value in the latch's low byte. -/
def Obligations.SetregWritesTheRegister : Prop :=
  ∀ (s : State) (n : BitVec 3) (val : Byte) (rest : List TransactionWord),
    s.life = .live → s.second = false → s.pending = (ProgramItem.setreg n val).expand ++ rest →
    run 2 s = .next { s with
      reg := s.reg.set n.toNat val n.isLt
      cmd := ((0b10000 : BitVec 5) ++ n : BitVec 8) ++ val
      addr := s.addr.extractLsb' 8 6 ++ val
      irq := s.irq || (decide (n = 1) && s.vblank && val.getLsbD 5)
      pending := rest
      result := .nothing }

/-- R112 item 4: SETREG twice leaves the state SETREG once leaves. -/
def Obligations.SetregTwiceIsSetregOnce : Prop :=
  ∀ (s : State) (n : BitVec 3) (val : Byte) (rest : List TransactionWord), s.life = .live → s.second = false →
    ∃ t, run 2 { s with pending := (ProgramItem.setreg n val).expand ++ rest } = .next t ∧
      run 4 { s with pending := (ProgramItem.setreg n val).expand ++ (ProgramItem.setreg n val).expand ++ rest } = .next t

/-- R21, R130: besides INIT only a register write changes a register, and only the one it names. -/
def Obligations.OnlyRegisterWritesChangeRegisters : Prop :=
  ∀ (i : Instr) (s t : State) (n : BitVec 3), i ≠ .init → exec i s = .next t →
    (∀ x, i ≠ .wcReg x n ∧ i ≠ .wcReg3 x n) → t.readReg n = s.readReg n

/-- R140 and R144: the mode index from R1.3, R0.1 and R1.4, the two enables and the two colours, for all register contents. -/
def Obligations.ModeIndexEnablesAndColours : Prop :=
  ∀ s : State,
    s.modeIndex = 4 * ((s.readReg 1).getLsbD 3).toNat + 2 * ((s.readReg 0).getLsbD 1).toNat +
      ((s.readReg 1).getLsbD 4).toNat ∧
    s.modeIndex < 8 ∧
    (s.displayEnable.toNat = regN s 1 / 64 % 2 ∧ s.interruptEnable.toNat = regN s 1 / 32 % 2) ∧
    s.textColor = regN s 7 / 16 ∧ s.backdropColor = regN s 7 % 16

/-- R141 to R143: the three table bases, their alignment and their range, for all register contents. -/
def Obligations.TableBasesAreAlignedAndBounded : Prop :=
  ∀ s : State,
    s.nameBase = 1024 * (regN s 2 % 16) ∧ s.nameBase ≤ 0x3C00 ∧
    s.colorBase = 64 * regN s 3 ∧ s.colorBase ≤ 0x3FC0 ∧
    s.patternBase = 2048 * (regN s 4 % 8) ∧ s.patternBase ≤ 0x3800

/-- R90: which mode each combination of R1.3, R0.1 and R1.4 selects. -/
def Obligations.ModeBitsSelectTheMode : Prop :=
  ∀ s : State,
    modeOf s.modeIndex =
      match (s.readReg 1).getLsbD 3, (s.readReg 0).getLsbD 1, (s.readReg 1).getLsbD 4 with
      | false, false, false => .graphicsI
      | false, false, true => .text
      | false, true, false => .graphicsII
      | false, true, true => .undocumented
      | true, false, false => .multicolor
      | true, _, _ => .undocumented

/-- R131 to R139: two register files that agree on the bits with an effect render alike and arm alike, whatever the other bits
and R5, R6 hold (the spec's own choice D24). -/
def Obligations.InertRegisterBitsDoNotShow : Prop :=
  ∀ (s t : State) (reg' : Vector Byte 8),
    let s' : State := { s with reg := reg' }
    (s.readReg 0).getLsbD 1 = (s'.readReg 0).getLsbD 1 →
    (s.readReg 1).extractLsb' 3 4 = (s'.readReg 1).extractLsb' 3 4 →
    (s.readReg 2).extractLsb' 0 4 = (s'.readReg 2).extractLsb' 0 4 →
    s.readReg 3 = s'.readReg 3 →
    (s.readReg 4).extractLsb' 0 3 = (s'.readReg 4).extractLsb' 0 3 →
    s.readReg 7 = s'.readReg 7 →
    exec .tick s = .next t → exec .tick s' = .next { t with reg := reg' }

/-! ### Renderer -/

/-- R151: the fifteen visible palette entries, and entry 0 rendered as the backdrop. -/
def Obligations.PaletteHasTheListedColours : Prop :=
  (List.range' 1 15).map palette =
    [⟨0, 0, 0⟩, ⟨33, 200, 66⟩, ⟨94, 200, 120⟩, ⟨84, 85, 237⟩, ⟨125, 118, 252⟩, ⟨212, 82, 77⟩, ⟨66, 235, 245⟩,
      ⟨252, 85, 84⟩, ⟨255, 121, 120⟩, ⟨212, 193, 84⟩, ⟨230, 206, 128⟩, ⟨33, 176, 59⟩, ⟨201, 91, 186⟩,
      ⟨204, 204, 204⟩, ⟨255, 255, 255⟩] ∧
    ∀ s : State, s.colour 0 = s.backRgb

/-- R152: a palette index is taken modulo 16, index 0 shows the backdrop, and a backdrop of index 0 shows TRANSPARENT_RGB,
whatever that is. -/
def Obligations.IndexZeroShowsTheBackdrop : Prop :=
  ∀ (s : State) (i : Nat), s.colour i = shown s (i % 16) ∧ s.backRgb = shown s 0

/-- R182: a tick on a visible line leaves the closed form of every pixel in row v, computed from the state before the tick,
keeps every other row, leaves the line buffer black, counts, and changes nothing else (R180, R181, R192, R193). -/
def Obligations.VisibleTickRendersTheClosedForm : Prop :=
  ∀ (s : State) (hv : s.v < frameHeight), s.life = .live → ∃ t, exec .tick s = .next t ∧
    t = { s with fb := t.fb, lbuf := Line.filled ⟨0, 0, 0⟩, v := s.v + 1, result := .nothing } ∧
    (∀ x (hx : x < lineWidth), ((t.fb[s.v]'hv)[x]'hx) = pixel s s.v x) ∧
    ∀ y (hy : y < frameHeight), y ≠ s.v → (t.fb[y]'hy) = (s.fb[y]'hy)

/-- R162 and R163: a Graphics I tick, pixel by pixel, with the addresses in plain arithmetic, none above 0x3FFF. -/
def Obligations.GraphicsITickDrawsTheTiles : Prop :=
  ∀ (s : State) (hv : s.v < frameHeight), s.life = .live →
    (s.readReg 1).getLsbD 6 = true → (s.readReg 1).getLsbD 3 = false → (s.readReg 0).getLsbD 1 = false →
    (s.readReg 1).getLsbD 4 = false → ∃ t, exec .tick s = .next t ∧
      ∀ c p x (hx : x < lineWidth), p < 8 → x = c * 8 + p →
        let nameAddr := 1024 * (regN s 2 % 16) + 32 * (s.v / 8) + c
        let patternAddr := 2048 * (regN s 4 % 8) + 8 * byteN s nameAddr + s.v % 8
        let colorAddr := 64 * regN s 3 + byteN s nameAddr / 8
        nameAddr ≤ 0x3FFF ∧ patternAddr ≤ 0x3FFF ∧ colorAddr ≤ 0x3FFF ∧
        (pixelSet (byteN s patternAddr) p →
          ((t.fb[s.v]'hv)[x]'hx) = shown s (byteN s colorAddr / 16)) ∧
        (¬ pixelSet (byteN s patternAddr) p →
          ((t.fb[s.v]'hv)[x]'hx) = shown s (byteN s colorAddr % 16))

/-- R165 and R166: a Text tick, pixel by pixel: forty columns of six pixels between two margins of eight, no colour table,
no address above 0x3FFF. -/
def Obligations.TextTickDrawsTheGlyphs : Prop :=
  ∀ (s : State) (hv : s.v < frameHeight), s.life = .live →
    (s.readReg 1).getLsbD 6 = true → (s.readReg 1).getLsbD 3 = false → (s.readReg 0).getLsbD 1 = false →
    (s.readReg 1).getLsbD 4 = true → ∃ t, exec .tick s = .next t ∧
      (∀ c p x (hx : x < lineWidth), c < 40 → p < 6 → x = c * 6 + 8 + p →
        let nameAddr := 1024 * (regN s 2 % 16) + 40 * (s.v / 8) + c
        let patternAddr := 2048 * (regN s 4 % 8) + 8 * byteN s nameAddr + s.v % 8
        nameAddr ≤ 0x3FFF ∧ patternAddr ≤ 0x3FFF ∧
        (pixelSet (byteN s patternAddr) p → ((t.fb[s.v]'hv)[x]'hx) = shown s (regN s 7 / 16)) ∧
        (¬ pixelSet (byteN s patternAddr) p → ((t.fb[s.v]'hv)[x]'hx) = shown s (regN s 7 % 16))) ∧
      ∀ x (hx : x < lineWidth), (x < 8 ∨ 248 ≤ x) → ((t.fb[s.v]'hv)[x]'hx) = shown s 0

/-- R174 to R176 and R178 (the spec's rules from general knowledge, D14): a Graphics II tick with the data-sheet decoder, by
thirds of the screen with R3 and R4 as base and mask; with the stub, the backdrop. -/
def Obligations.GraphicsIITickDrawsTheTiles : Prop :=
  ∀ (s : State) (hv : s.v < frameHeight), s.life = .live →
    (s.readReg 1).getLsbD 6 = true → (s.readReg 1).getLsbD 3 = false → (s.readReg 0).getLsbD 1 = true →
    (s.readReg 1).getLsbD 4 = false → ∃ t, exec .tick s = .next t ∧
      (s.params.gfx2Model = .datasheet → ∀ c p x (hx : x < lineWidth), p < 8 → x = c * 8 + p →
        let name := byteN s (1024 * (regN s 2 % 16) + 32 * (s.v / 8) + c)
        let off := 2048 * (s.v / 64) + 8 * name + s.v % 8
        let patternAddr := 0x2000 * (regN s 4 / 4 % 2) + (off &&& (2048 * (regN s 4 % 4) + 0x07FF))
        let colorAddr := 0x2000 * (regN s 3 / 128) + (off &&& (64 * (regN s 3 % 128) + 0x003F))
        (pixelSet (byteN s patternAddr) p →
          ((t.fb[s.v]'hv)[x]'hx) = shown s (byteN s colorAddr / 16)) ∧
        (¬ pixelSet (byteN s patternAddr) p →
          ((t.fb[s.v]'hv)[x]'hx) = shown s (byteN s colorAddr % 16))) ∧
      (s.params.gfx2Model = .backdropStub → ∀ x (hx : x < lineWidth), ((t.fb[s.v]'hv)[x]'hx) = shown s 0)

/-- R161: with the display disabled the row is the backdrop, in every mode and whatever VRAM holds; just after INIT that is
TRANSPARENT_RGB. The last clause is the spec's inference
from R38 and R152, and rests on the parameter TRANSPARENT_RGB (D12, log 7), here any. -/
def Obligations.DisabledDisplayShowsTheBackdrop : Prop :=
  (∀ (s : State) (hv : s.v < frameHeight), s.life = .live → (s.readReg 1).getLsbD 6 = false →
    ∃ t, exec .tick s = .next t ∧ ∀ x (hx : x < lineWidth), ((t.fb[s.v]'hv)[x]'hx) = shown s 0) ∧
  ∀ (params : Params) (pending : List TransactionWord),
    (State.afterInit params pending).displayEnable = false ∧
      (State.afterInit params pending).backRgb = params.transparentRgb

/-- R170 (the spec's own choices D15, D16): with the display enabled, mode indices 3 to 7 show the backdrop; the device does
not stop. -/
def Obligations.UnimplementedModesShowTheBackdrop : Prop :=
  ∀ (s : State) (hv : s.v < frameHeight), s.life = .live → 3 ≤ s.modeIndex →
    ∃ t, exec .tick s = .next t ∧ ∀ x (hx : x < lineWidth), ((t.fb[s.v]'hv)[x]'hx) = shown s 0

/-- R68: the largest address of each table, for every register content, visible line, column and name byte. -/
def Obligations.RendererAddressesStayInVram : Prop :=
  ∀ (s : State) (v c name : Nat), v < 192 → name < 256 →
    (c < 32 → s.gridNameAddr v c ≤ 0x3EFF) ∧
    (c < 40 → s.textNameAddr v c ≤ 0x3FBF) ∧
    s.patternAddr v name ≤ 0x3FFF ∧
    s.colorAddr name ≤ 0x3FDF ∧
    g2Offset v name ≤ 6143 ∧
    s.g2PatternAddr (g2Offset v name) ≤ 0x37FF ∧
    s.g2ColorAddr (g2Offset v name) ≤ 0x37FF

/-- R181: a render changes only the line buffer and row v, and reads only VRAM, the registers, TRANSPARENT_RGB and GFX2_MODEL:
two states that agree on these get the same row v, whatever else they hold. -/
def Obligations.RenderReadsOnlyVramAndRegisters : Prop :=
  (∀ (s : State) (v : Nat), s.renderLine v =
    { s with fb := (s.renderLine v).fb, lbuf := (s.renderLine v).lbuf }) ∧
  (∀ (s : State) (v y : Nat) (hy : y < frameHeight), y ≠ v → ((s.renderLine v).fb[y]'hy) = (s.fb[y]'hy)) ∧
  ∀ (s₁ s₂ : State) (v : Nat) (hv : v < frameHeight),
    (∀ a, s₁.readVram a = s₂.readVram a) → (∀ n, s₁.readReg n = s₂.readReg n) →
    s₁.params.transparentRgb = s₂.params.transparentRgb → s₁.params.gfx2Model = s₂.params.gfx2Model →
    ((s₁.renderLine v).fb[v]'hv) = ((s₂.renderLine v).fb[v]'hv)

/-- R182 and R194 over a whole frame: 192 ticks from line 0 with nothing in between leave the closed form of every pixel in
the framebuffer. -/
def Obligations.VisibleFrameIsTheClosedForm : Prop :=
  ∀ (s : State) (rest : List TransactionWord), s.life = .live → s.v = 0 →
    s.pending = List.replicate 192 (encode .tick) ++ rest →
    ∃ t, run 192 s = .next t ∧ t.v = 192 ∧ t.pending = rest ∧ t.vram = s.vram ∧ t.reg = s.reg ∧
      ∀ y (hy : y < frameHeight) x (hx : x < lineWidth), ((t.fb[y]'hy)[x]'hx) = pixel s y x

/-! ### Timing and interrupt -/

/-- R191: the tick at v = 192 sets vblank, arms the interrupt if R1.5, and renders nothing. The counter is
R193's; that port state is untouched is the spec's own choice D19 (log 16). -/
def Obligations.BoundaryTickSetsVblankAndArms : Prop :=
  ∀ s : State, s.life = .live → s.v = 192 →
    exec .tick s = .next { s with
      vblank := true
      irq := s.irq || (s.readReg 1).getLsbD 5
      v := 193
      result := .nothing }

/-- R190: a tick past the boundary line only counts. That it changes no port state is the spec's own choice D19. -/
def Obligations.BlankTickOnlyCounts : Prop :=
  ∀ s : State, s.life = .live → 192 < s.v →
    exec .tick s = .next { s with v := (s.v + 1) % 262, result := .nothing }

/-- R193: every tick adds one to the counter, 262 becomes 0, the counter stays in 0..261, and 262 ticks bring it back. -/
def Obligations.CounterAdvancesModulo262 : Prop :=
  (∀ s : State, s.life = .live → s.v ≤ 261 → ∃ t, exec .tick s = .next t ∧
    t.v = (if s.v + 1 = 262 then 0 else s.v + 1) ∧ t.v ≤ 261) ∧
  ∀ (s : State) (rest : List TransactionWord), s.life = .live → s.v ≤ 261 →
    s.pending = ProgramItem.frame.expand ++ rest →
    ∃ t, run 262 s = .next t ∧ t.v = s.v ∧ t.pending = rest

/-- R194: over a frame of ticks from line 0, the vblank flag is set by the 193rd tick and by no other, and the wrap does not
clear it. -/
def Obligations.VblankIsSetOncePerFrame : Prop :=
  ∀ (s : State) (rest : List TransactionWord), s.life = .live → s.v = 0 → s.vblank = false →
    s.pending = ProgramItem.frame.expand ++ rest →
    ∀ k, k ≤ 262 → ∃ t, run k s = .next t ∧ t.v = k % 262 ∧ t.vblank = decide (193 ≤ k)

/-- R195: CI returns the pending latch and clears it, so an immediate second CI returns false. That it changes nothing else is
the spec's own choice D18. -/
def Obligations.ConsumeInterruptReturnsAndClears : Prop :=
  ∀ s : State, s.life = .live →
    exec .ci s = .next { s with irq := false, result := .bool s.irq } ∧
    exec .ci { s with irq := false, result := .bool s.irq } = .next { s with irq := false, result := .bool false }

/-- R196: the interrupt state machine, for every transaction and either STATUS_CLEARS_IRQ. That CI leaves vblank and that an R1
write with bit 5 clear leaves the latch are the spec's own choices D18 and D20 (log 16). -/
def Obligations.InterruptStateMachineFollowsTheTable : Prop :=
  ∀ (i : Instr) (s t : State), exec i s = .next t → (t.vblank, t.irq) = interruptAfter i s

/-- R197: the pending latch rises only at the boundary tick with IE set, or at an R1 write with bit 5 set while vblank is
latched. -/
def Obligations.InterruptRisesOnlyTwoWays : Prop :=
  ∀ (i : Instr) (s t : State), exec i s = .next t → s.irq = false → t.irq = true →
    (i = .tick ∧ s.v = 192 ∧ (s.readReg 1).getLsbD 5 = true) ∨
    ((∃ x, i = .wcReg x 1 ∨ i = .wcReg3 x 1) ∧ s.vblank = true ∧ s.cmd.getLsbD 5 = true)

/-- R236: CI and then RS acknowledge the frame: no R1 write after them arms the interrupt. Where STATUS_CLEARS_IRQ, RS alone
clears both; where not, RS leaves the pending latch. -/
def Obligations.AcknowledgedInterruptStaysDown : Prop :=
  (∀ (s : State) (val : Byte) (rest : List TransactionWord), s.life = .live →
    s.pending = [encode .ci, encode .rs] ++ (ProgramItem.setreg 1 val).expand ++ rest →
    ∃ t, run 4 s = .next t ∧ t.vblank = false ∧ t.irq = false ∧ t.readReg 1 = val) ∧
  (∀ s : State, s.life = .live → s.params.statusClearsIrq = true →
    ∃ t, exec .rs s = .next t ∧ t.vblank = false ∧ t.irq = false) ∧
  ∀ s : State, s.life = .live → s.params.statusClearsIrq = false →
    ∃ t, exec .rs s = .next t ∧ t.vblank = false ∧ t.irq = s.irq

/-! ### Frames over all transactions, invariants, independence -/

/-- R23 and R72: besides INIT only WD changes VRAM, and only the byte at the latch. -/
def Obligations.OnlyWriteDataChangesVram : Prop :=
  ∀ (i : Instr) (s t : State) (a : VramAddr), i ≠ .init → exec i s = .next t →
    ((∃ b, i = .wd b) → a ≠ s.addr) → t.readVram a = s.readVram a

/-- R31, R39 item 2, R112 item 3: besides INIT only TICK changes the framebuffer, only on a visible line, and only that row. -/
def Obligations.OnlyVisibleTicksChangeTheFramebuffer : Prop :=
  ∀ (i : Instr) (s t : State) (y : Nat) (hy : y < frameHeight), i ≠ .init → exec i s = .next t →
    (i = .tick → y ≠ s.v) → (t.fb[y]'hy) = (s.fb[y]'hy)

/-- R24, R25, R39 item 6: only port transactions move the address latch or load the read buffer, INIT apart, and register
writes do neither (that CI does neither is the spec's own choice D18, log 16). -/
def Obligations.LatchAndBufferMoveOnlyByPortAccess : Prop :=
  ∀ (i : Instr) (s t : State), i ≠ .init → exec i s = .next t →
    ((∀ b, i ≠ .wcFirst b ∧ i ≠ .wd b) → (∀ a, i ≠ .wcRsetup a ∧ i ≠ .wcWsetup a) → i ≠ .rd → t.addr = s.addr) ∧
    ((∀ b, i ≠ .wd b) → (∀ a, i ≠ .wcRsetup a) → i ≠ .rd → t.rbuf = s.rbuf)

/-- R26: what each transaction does to the latch flag: set by a first byte, cleared by every other port transaction and by
INIT, left by the rest (for TICK and CI the spec's own choices D19 and D18, log 16; its value after INIT D8, log 5). -/
def Obligations.LatchFlagFollowsThePort : Prop :=
  ∀ (i : Instr) (s t : State), exec i s = .next t →
    t.second = match i with
      | .wcFirst _ => true
      | .tick => s.second
      | .ci => s.second
      | .fb => s.second
      | .width => s.second
      | .height => s.second
      | .spf => s.second
      | .shutdown => s.second
      | _ => false

/-- R10: the parameters are fixed for one machine: no step changes them. -/
def Obligations.NoStepChangesTheParameters : Prop :=
  ∀ s t : State, step s = .next t → t.params = s.params

/-- The state after reset meets the invariant. -/
def Obligations.ResetStateMeetsTheInvariant : Prop := Inv State.reset

/-- R39 item 5, R32 and the canonical form of memory (log 6): every step keeps the invariant, from every state that meets it. -/
def Obligations.StepKeepsTheInvariant : Prop :=
  ∀ s t : State, Inv s → step s = .next t → Inv t

/-- R263: after SYNC and SETR the state does not depend on the latch, the read buffer, the command word or the latch flag the
device started with. -/
def Obligations.BootSequenceForgetsThePortState : Prop :=
  ∀ (s : State) (a addr : VramAddr) (rbuf : Byte) (cmd : CommandWord) (second : Bool) (rest : List TransactionWord),
    s.life = .live → s.pending = ProgramItem.sync.expand ++ (ProgramItem.setr a).expand ++ rest →
    ∃ t, run 3 s = .next t ∧
      run 3 { s with addr := addr, rbuf := rbuf, cmd := cmd, second := second } = .next t
end

