-- ==== Sys2Proof/Laws/Memory.lean ====
section
/-! SUPPORT. The laws of memory: a write is read back, leaves every other address alone and keeps the canonical form, and
canonical memories that read alike are equal. -/

namespace Sys2Proof.Machine

theorem Memory.wf_nil : Memory.wf [] = true := rfl

theorem Memory.wfFrom_cons_iff {lo k : Nat} {b : Byte} {m : Memory} :
    Memory.wfFrom lo ((k, b) :: m) = true ↔
      lo ≤ k ∧ k < Memory.size ∧ b ≠ Memory.unlisted ∧ Memory.wfFrom (k + 1) m = true := by
  simp [Memory.wfFrom, and_assoc]

/-- Below the least listed address everything is unlisted. -/
theorem Memory.get_of_lt {m : Memory} {lo k : Nat} (h : Memory.wfFrom lo m = true) (hk : k < lo) :
    Memory.get m k = Memory.unlisted := by
  induction m generalizing lo with
  | nil => rfl
  | cons e m ih =>
    obtain ⟨k', b⟩ := e
    rw [Memory.wfFrom_cons_iff] at h
    rw [Memory.get, if_neg (by omega)]
    exact ih h.2.2.2 (by omega)

theorem Memory.wfFrom_mono {m : Memory} {lo lo' : Nat} (h : Memory.wfFrom lo m = true) (hl : lo' ≤ lo) :
    Memory.wfFrom lo' m = true := by
  cases m with
  | nil => rfl
  | cons e m =>
    obtain ⟨k', b⟩ := e
    rw [Memory.wfFrom_cons_iff] at h ⊢
    exact ⟨by omega, h.2⟩

theorem Memory.get_cons_same (m : Memory) (k : Nat) (b : Byte) (h : Memory.get m k = Memory.unlisted) :
    Memory.get (Memory.cons k b m) k = b := by
  unfold Memory.cons
  split
  · simp_all
  · simp [Memory.get]

theorem Memory.get_cons_other (m : Memory) {k k' : Nat} (b : Byte) (h : k' ≠ k) :
    Memory.get (Memory.cons k b m) k' = Memory.get m k' := by
  unfold Memory.cons
  split
  · rfl
  · simp [Memory.get, h]

theorem Memory.wfFrom_consEntry {m : Memory} {lo k : Nat} (b : Byte) (hlo : lo ≤ k) (hk : k < Memory.size)
    (h : Memory.wfFrom (k + 1) m = true) : Memory.wfFrom lo (Memory.cons k b m) = true := by
  unfold Memory.cons
  split
  · exact Memory.wfFrom_mono h (by omega)
  · rw [Memory.wfFrom_cons_iff]
    exact ⟨hlo, hk, ‹_›, h⟩

/-- Setting a byte leaves every other address alone, in any list. -/
theorem Memory.get_set_other (m : Memory) {k k' : Nat} (b : Byte) (h : k' ≠ k) :
    Memory.get (Memory.set m k b) k' = Memory.get m k' := by
  induction m with
  | nil => exact Memory.get_cons_other [] b h
  | cons e m ih =>
    obtain ⟨k₀, b₀⟩ := e
    simp only [Memory.set]
    split
    · exact Memory.get_cons_other _ b h
    · split
      · rename_i hk
        rw [Memory.get_cons_other _ b h, Memory.get, if_neg (by omega)]
      · simp only [Memory.get, ih]

/-- A set byte is read back, in a canonical list. -/
theorem Memory.get_set_same {m : Memory} {lo : Nat} (k : Nat) (b : Byte) (h : Memory.wfFrom lo m = true) :
    Memory.get (Memory.set m k b) k = b := by
  induction m generalizing lo with
  | nil => exact Memory.get_cons_same [] k b rfl
  | cons e m ih =>
    obtain ⟨k₀, b₀⟩ := e
    have h' := Memory.wfFrom_cons_iff.mp h
    simp only [Memory.set]
    split
    · refine Memory.get_cons_same _ k b ?_
      exact Memory.get_of_lt (lo := k₀) (Memory.wfFrom_cons_iff.mpr ⟨le_refl _, h'.2⟩) (by omega)
    · split
      · refine Memory.get_cons_same _ k b ?_
        exact Memory.get_of_lt h'.2.2.2 (by omega)
      · rw [Memory.get, if_neg ‹_›]
        exact ih h'.2.2.2

/-- Setting a byte keeps the canonical form. -/
theorem Memory.wfFrom_set {m : Memory} {lo k : Nat} (b : Byte) (h : Memory.wfFrom lo m = true) (hlo : lo ≤ k)
    (hk : k < Memory.size) : Memory.wfFrom lo (Memory.set m k b) = true := by
  induction m generalizing lo with
  | nil => exact Memory.wfFrom_consEntry b hlo hk rfl
  | cons e m ih =>
    obtain ⟨k₀, b₀⟩ := e
    have h' := Memory.wfFrom_cons_iff.mp h
    simp only [Memory.set]
    split
    · refine Memory.wfFrom_consEntry b hlo hk ?_
      exact Memory.wfFrom_cons_iff.mpr ⟨by omega, h'.2⟩
    · split
      · rename_i hkk
        subst hkk
        exact Memory.wfFrom_consEntry b hlo hk h'.2.2.2
      · exact Memory.wfFrom_cons_iff.mpr ⟨h'.1, h'.2.1, h'.2.2.1, ih h'.2.2.2 (by omega)⟩

theorem Memory.read_write_same {m : Memory} (a : VramAddr) (b : Byte) (h : Memory.wf m = true) :
    Memory.read (Memory.write m a b) a = b :=
  Memory.get_set_same a.toNat b h

theorem Memory.read_write_other (m : Memory) {a a' : VramAddr} (b : Byte) (h : a' ≠ a) :
    Memory.read (Memory.write m a b) a' = Memory.read m a' :=
  Memory.get_set_other m b fun e => h (BitVec.eq_of_toNat_eq e)

/-- Every memory operation keeps the canonical form: there is one, the write of a byte. -/
theorem Memory.wf_write {m : Memory} (a : VramAddr) (b : Byte) (h : Memory.wf m = true) :
    Memory.wf (Memory.write m a b) = true :=
  Memory.wfFrom_set b h (Nat.zero_le _) a.isLt

theorem Memory.eq_of_get_eq {m₁ m₂ : Memory} {lo : Nat} (h₁ : Memory.wfFrom lo m₁ = true)
    (h₂ : Memory.wfFrom lo m₂ = true) (h : ∀ k, Memory.get m₁ k = Memory.get m₂ k) : m₁ = m₂ := by
  induction m₁ generalizing lo m₂ with
  | nil =>
    cases m₂ with
    | nil => rfl
    | cons e m₂ =>
      obtain ⟨k, b⟩ := e
      exact absurd (by simpa [Memory.get] using (h k).symm) (Memory.wfFrom_cons_iff.mp h₂).2.2.1
  | cons e m₁ ih =>
    obtain ⟨k₁, b₁⟩ := e
    have w₁ := Memory.wfFrom_cons_iff.mp h₁
    cases m₂ with
    | nil => exact absurd (by simpa [Memory.get] using h k₁) w₁.2.2.1
    | cons e m₂ =>
      obtain ⟨k₂, b₂⟩ := e
      have w₂ := Memory.wfFrom_cons_iff.mp h₂
      have g₁ := h k₁
      have g₂ := h k₂
      have hk : k₁ = k₂ := by
        rcases lt_trichotomy k₁ k₂ with hlt | heq | hlt
        · rw [Memory.get_of_lt (lo := k₂) (Memory.wfFrom_cons_iff.mpr ⟨le_refl _, w₂.2⟩) hlt] at g₁
          exact absurd (by simpa [Memory.get] using g₁) w₁.2.2.1
        · exact heq
        · rw [Memory.get_of_lt (lo := k₁) (Memory.wfFrom_cons_iff.mpr ⟨le_refl _, w₁.2⟩) hlt] at g₂
          exact absurd (by simpa [Memory.get] using g₂.symm) w₂.2.2.1
      subst hk
      have hb : b₁ = b₂ := by simpa [Memory.get] using g₁
      subst hb
      congr 1
      refine ih w₁.2.2.2 w₂.2.2.2 fun k => ?_
      by_cases e : k = k₁
      · rw [Memory.get_of_lt w₁.2.2.2 (by omega), Memory.get_of_lt w₂.2.2.2 (by omega)]
      · simpa [Memory.get, e] using h k

/-- Above VRAM nothing is listed. -/
theorem Memory.get_of_size_le {m : Memory} {lo k : Nat} (h : Memory.wfFrom lo m = true) (hk : Memory.size ≤ k) :
    Memory.get m k = Memory.unlisted := by
  induction m generalizing lo with
  | nil => rfl
  | cons e m ih =>
    obtain ⟨k', b⟩ := e
    have h' := Memory.wfFrom_cons_iff.mp h
    rw [Memory.get, if_neg (by omega)]
    exact ih h'.2.2.2

/-- Equal memories are equal data: canonical memories that read alike at every VRAM address are one list. -/
theorem Memory.eq_of_read_eq {m₁ m₂ : Memory} (h₁ : Memory.wf m₁ = true) (h₂ : Memory.wf m₂ = true)
    (h : ∀ a, Memory.read m₁ a = Memory.read m₂ a) : m₁ = m₂ := by
  refine Memory.eq_of_get_eq h₁ h₂ fun k => ?_
  by_cases hk : k < Memory.size
  · simpa [Memory.read, Nat.mod_eq_of_lt hk] using h (BitVec.ofNat 14 k)
  · rw [Memory.get_of_size_le h₁ (by omega), Memory.get_of_size_le h₂ (by omega)]

end Sys2Proof.Machine
end

