-- ==== Sys2Proof/Laws/State.lean ====
section
/-! SUPPORT. What each shared operation does to each field of the state: one lemma per field per update, so that no proof
unfolds a record update. -/

namespace Sys2Proof.Machine

open Sys2Proof.Config

/-! ### writeVram -/

@[simp] theorem State.writeVram_vram (s : State) (a : VramAddr) (b : Byte) : (s.writeVram a b).vram = Memory.write s.vram a b := rfl
@[simp] theorem State.writeVram_reg (s : State) (a : VramAddr) (b : Byte) : (s.writeVram a b).reg = s.reg := rfl
@[simp] theorem State.writeVram_addr (s : State) (a : VramAddr) (b : Byte) : (s.writeVram a b).addr = s.addr := rfl
@[simp] theorem State.writeVram_rbuf (s : State) (a : VramAddr) (b : Byte) : (s.writeVram a b).rbuf = s.rbuf := rfl
@[simp] theorem State.writeVram_second (s : State) (a : VramAddr) (b : Byte) : (s.writeVram a b).second = s.second := rfl
@[simp] theorem State.writeVram_cmd (s : State) (a : VramAddr) (b : Byte) : (s.writeVram a b).cmd = s.cmd := rfl
@[simp] theorem State.writeVram_v (s : State) (a : VramAddr) (b : Byte) : (s.writeVram a b).v = s.v := rfl
@[simp] theorem State.writeVram_vblank (s : State) (a : VramAddr) (b : Byte) : (s.writeVram a b).vblank = s.vblank := rfl
@[simp] theorem State.writeVram_irq (s : State) (a : VramAddr) (b : Byte) : (s.writeVram a b).irq = s.irq := rfl
@[simp] theorem State.writeVram_fb (s : State) (a : VramAddr) (b : Byte) : (s.writeVram a b).fb = s.fb := rfl
@[simp] theorem State.writeVram_lbuf (s : State) (a : VramAddr) (b : Byte) : (s.writeVram a b).lbuf = s.lbuf := rfl
@[simp] theorem State.writeVram_life (s : State) (a : VramAddr) (b : Byte) : (s.writeVram a b).life = s.life := rfl
@[simp] theorem State.writeVram_params (s : State) (a : VramAddr) (b : Byte) : (s.writeVram a b).params = s.params := rfl
@[simp] theorem State.writeVram_pending (s : State) (a : VramAddr) (b : Byte) : (s.writeVram a b).pending = s.pending := rfl
@[simp] theorem State.writeVram_result (s : State) (a : VramAddr) (b : Byte) : (s.writeVram a b).result = s.result := rfl

/-! ### writeReg -/

@[simp] theorem State.writeReg_vram (s : State) (n : BitVec 3) (b : Byte) : (s.writeReg n b).vram = s.vram := rfl
@[simp] theorem State.writeReg_reg (s : State) (n : BitVec 3) (b : Byte) : (s.writeReg n b).reg = s.reg.set n.toNat b n.isLt := rfl
@[simp] theorem State.writeReg_addr (s : State) (n : BitVec 3) (b : Byte) : (s.writeReg n b).addr = s.addr := rfl
@[simp] theorem State.writeReg_rbuf (s : State) (n : BitVec 3) (b : Byte) : (s.writeReg n b).rbuf = s.rbuf := rfl
@[simp] theorem State.writeReg_second (s : State) (n : BitVec 3) (b : Byte) : (s.writeReg n b).second = s.second := rfl
@[simp] theorem State.writeReg_cmd (s : State) (n : BitVec 3) (b : Byte) : (s.writeReg n b).cmd = s.cmd := rfl
@[simp] theorem State.writeReg_v (s : State) (n : BitVec 3) (b : Byte) : (s.writeReg n b).v = s.v := rfl
@[simp] theorem State.writeReg_vblank (s : State) (n : BitVec 3) (b : Byte) : (s.writeReg n b).vblank = s.vblank := rfl
@[simp] theorem State.writeReg_irq (s : State) (n : BitVec 3) (b : Byte) : (s.writeReg n b).irq = s.irq := rfl
@[simp] theorem State.writeReg_fb (s : State) (n : BitVec 3) (b : Byte) : (s.writeReg n b).fb = s.fb := rfl
@[simp] theorem State.writeReg_lbuf (s : State) (n : BitVec 3) (b : Byte) : (s.writeReg n b).lbuf = s.lbuf := rfl
@[simp] theorem State.writeReg_life (s : State) (n : BitVec 3) (b : Byte) : (s.writeReg n b).life = s.life := rfl
@[simp] theorem State.writeReg_params (s : State) (n : BitVec 3) (b : Byte) : (s.writeReg n b).params = s.params := rfl
@[simp] theorem State.writeReg_pending (s : State) (n : BitVec 3) (b : Byte) : (s.writeReg n b).pending = s.pending := rfl
@[simp] theorem State.writeReg_result (s : State) (n : BitVec 3) (b : Byte) : (s.writeReg n b).result = s.result := rfl

/-! ### incAddr -/

@[simp] theorem State.incAddr_vram (s : State) : s.incAddr.vram = s.vram := rfl
@[simp] theorem State.incAddr_reg (s : State) : s.incAddr.reg = s.reg := rfl
@[simp] theorem State.incAddr_addr (s : State) : s.incAddr.addr = s.addr + 1 := rfl
@[simp] theorem State.incAddr_rbuf (s : State) : s.incAddr.rbuf = s.rbuf := rfl
@[simp] theorem State.incAddr_second (s : State) : s.incAddr.second = s.second := rfl
@[simp] theorem State.incAddr_cmd (s : State) : s.incAddr.cmd = s.cmd := rfl
@[simp] theorem State.incAddr_v (s : State) : s.incAddr.v = s.v := rfl
@[simp] theorem State.incAddr_vblank (s : State) : s.incAddr.vblank = s.vblank := rfl
@[simp] theorem State.incAddr_irq (s : State) : s.incAddr.irq = s.irq := rfl
@[simp] theorem State.incAddr_fb (s : State) : s.incAddr.fb = s.fb := rfl
@[simp] theorem State.incAddr_lbuf (s : State) : s.incAddr.lbuf = s.lbuf := rfl
@[simp] theorem State.incAddr_life (s : State) : s.incAddr.life = s.life := rfl
@[simp] theorem State.incAddr_params (s : State) : s.incAddr.params = s.params := rfl
@[simp] theorem State.incAddr_pending (s : State) : s.incAddr.pending = s.pending := rfl
@[simp] theorem State.incAddr_result (s : State) : s.incAddr.result = s.result := rfl

/-! ### prefetch -/

@[simp] theorem State.prefetch_vram (s : State) : s.prefetch.vram = s.vram := rfl
@[simp] theorem State.prefetch_reg (s : State) : s.prefetch.reg = s.reg := rfl
@[simp] theorem State.prefetch_addr (s : State) : s.prefetch.addr = s.addr := rfl
@[simp] theorem State.prefetch_rbuf (s : State) : s.prefetch.rbuf = s.readVram s.addr := rfl
@[simp] theorem State.prefetch_second (s : State) : s.prefetch.second = s.second := rfl
@[simp] theorem State.prefetch_cmd (s : State) : s.prefetch.cmd = s.cmd := rfl
@[simp] theorem State.prefetch_v (s : State) : s.prefetch.v = s.v := rfl
@[simp] theorem State.prefetch_vblank (s : State) : s.prefetch.vblank = s.vblank := rfl
@[simp] theorem State.prefetch_irq (s : State) : s.prefetch.irq = s.irq := rfl
@[simp] theorem State.prefetch_fb (s : State) : s.prefetch.fb = s.fb := rfl
@[simp] theorem State.prefetch_lbuf (s : State) : s.prefetch.lbuf = s.lbuf := rfl
@[simp] theorem State.prefetch_life (s : State) : s.prefetch.life = s.life := rfl
@[simp] theorem State.prefetch_params (s : State) : s.prefetch.params = s.params := rfl
@[simp] theorem State.prefetch_pending (s : State) : s.prefetch.pending = s.pending := rfl
@[simp] theorem State.prefetch_result (s : State) : s.prefetch.result = s.result := rfl

/-! ### latchFirst -/

@[simp] theorem State.latchFirst_vram (s : State) (b : Byte) : (s.latchFirst b).vram = s.vram := rfl
@[simp] theorem State.latchFirst_reg (s : State) (b : Byte) : (s.latchFirst b).reg = s.reg := rfl
@[simp] theorem State.latchFirst_addr (s : State) (b : Byte) : (s.latchFirst b).addr = (s.addr &&& 0x3F00) ||| b.setWidth 14 := rfl
@[simp] theorem State.latchFirst_rbuf (s : State) (b : Byte) : (s.latchFirst b).rbuf = s.rbuf := rfl
@[simp] theorem State.latchFirst_second (s : State) (b : Byte) : (s.latchFirst b).second = s.second := rfl
@[simp] theorem State.latchFirst_cmd (s : State) (b : Byte) : (s.latchFirst b).cmd = (s.cmd &&& 0xFF00) ||| b.setWidth 16 := rfl
@[simp] theorem State.latchFirst_v (s : State) (b : Byte) : (s.latchFirst b).v = s.v := rfl
@[simp] theorem State.latchFirst_vblank (s : State) (b : Byte) : (s.latchFirst b).vblank = s.vblank := rfl
@[simp] theorem State.latchFirst_irq (s : State) (b : Byte) : (s.latchFirst b).irq = s.irq := rfl
@[simp] theorem State.latchFirst_fb (s : State) (b : Byte) : (s.latchFirst b).fb = s.fb := rfl
@[simp] theorem State.latchFirst_lbuf (s : State) (b : Byte) : (s.latchFirst b).lbuf = s.lbuf := rfl
@[simp] theorem State.latchFirst_life (s : State) (b : Byte) : (s.latchFirst b).life = s.life := rfl
@[simp] theorem State.latchFirst_params (s : State) (b : Byte) : (s.latchFirst b).params = s.params := rfl
@[simp] theorem State.latchFirst_pending (s : State) (b : Byte) : (s.latchFirst b).pending = s.pending := rfl
@[simp] theorem State.latchFirst_result (s : State) (b : Byte) : (s.latchFirst b).result = s.result := rfl

/-! ### latchSecond -/

@[simp] theorem State.latchSecond_vram (s : State) (b : Byte) : (s.latchSecond b).vram = s.vram := rfl
@[simp] theorem State.latchSecond_reg (s : State) (b : Byte) : (s.latchSecond b).reg = s.reg := rfl
@[simp] theorem State.latchSecond_addr (s : State) (b : Byte) : (s.latchSecond b).addr = s.addr := rfl
@[simp] theorem State.latchSecond_rbuf (s : State) (b : Byte) : (s.latchSecond b).rbuf = s.rbuf := rfl
@[simp] theorem State.latchSecond_second (s : State) (b : Byte) : (s.latchSecond b).second = s.second := rfl
@[simp] theorem State.latchSecond_cmd (s : State) (b : Byte) : (s.latchSecond b).cmd = (b.setWidth 16 <<< 8) ||| (s.cmd &&& 0x00FF) := rfl
@[simp] theorem State.latchSecond_v (s : State) (b : Byte) : (s.latchSecond b).v = s.v := rfl
@[simp] theorem State.latchSecond_vblank (s : State) (b : Byte) : (s.latchSecond b).vblank = s.vblank := rfl
@[simp] theorem State.latchSecond_irq (s : State) (b : Byte) : (s.latchSecond b).irq = s.irq := rfl
@[simp] theorem State.latchSecond_fb (s : State) (b : Byte) : (s.latchSecond b).fb = s.fb := rfl
@[simp] theorem State.latchSecond_lbuf (s : State) (b : Byte) : (s.latchSecond b).lbuf = s.lbuf := rfl
@[simp] theorem State.latchSecond_life (s : State) (b : Byte) : (s.latchSecond b).life = s.life := rfl
@[simp] theorem State.latchSecond_params (s : State) (b : Byte) : (s.latchSecond b).params = s.params := rfl
@[simp] theorem State.latchSecond_pending (s : State) (b : Byte) : (s.latchSecond b).pending = s.pending := rfl
@[simp] theorem State.latchSecond_result (s : State) (b : Byte) : (s.latchSecond b).result = s.result := rfl

/-! ### armIrq -/

@[simp] theorem State.armIrq_vram (s : State) : s.armIrq.vram = s.vram := rfl
@[simp] theorem State.armIrq_reg (s : State) : s.armIrq.reg = s.reg := rfl
@[simp] theorem State.armIrq_addr (s : State) : s.armIrq.addr = s.addr := rfl
@[simp] theorem State.armIrq_rbuf (s : State) : s.armIrq.rbuf = s.rbuf := rfl
@[simp] theorem State.armIrq_second (s : State) : s.armIrq.second = s.second := rfl
@[simp] theorem State.armIrq_cmd (s : State) : s.armIrq.cmd = s.cmd := rfl
@[simp] theorem State.armIrq_v (s : State) : s.armIrq.v = s.v := rfl
@[simp] theorem State.armIrq_vblank (s : State) : s.armIrq.vblank = s.vblank := rfl
@[simp] theorem State.armIrq_irq (s : State) : s.armIrq.irq = true := rfl
@[simp] theorem State.armIrq_fb (s : State) : s.armIrq.fb = s.fb := rfl
@[simp] theorem State.armIrq_lbuf (s : State) : s.armIrq.lbuf = s.lbuf := rfl
@[simp] theorem State.armIrq_life (s : State) : s.armIrq.life = s.life := rfl
@[simp] theorem State.armIrq_params (s : State) : s.armIrq.params = s.params := rfl
@[simp] theorem State.armIrq_pending (s : State) : s.armIrq.pending = s.pending := rfl
@[simp] theorem State.armIrq_result (s : State) : s.armIrq.result = s.result := rfl

/-! ### expectSecond -/

@[simp] theorem State.expectSecond_vram (s : State) : s.expectSecond.vram = s.vram := rfl
@[simp] theorem State.expectSecond_reg (s : State) : s.expectSecond.reg = s.reg := rfl
@[simp] theorem State.expectSecond_addr (s : State) : s.expectSecond.addr = s.addr := rfl
@[simp] theorem State.expectSecond_rbuf (s : State) : s.expectSecond.rbuf = s.rbuf := rfl
@[simp] theorem State.expectSecond_second (s : State) : s.expectSecond.second = true := rfl
@[simp] theorem State.expectSecond_cmd (s : State) : s.expectSecond.cmd = s.cmd := rfl
@[simp] theorem State.expectSecond_v (s : State) : s.expectSecond.v = s.v := rfl
@[simp] theorem State.expectSecond_vblank (s : State) : s.expectSecond.vblank = s.vblank := rfl
@[simp] theorem State.expectSecond_irq (s : State) : s.expectSecond.irq = s.irq := rfl
@[simp] theorem State.expectSecond_fb (s : State) : s.expectSecond.fb = s.fb := rfl
@[simp] theorem State.expectSecond_lbuf (s : State) : s.expectSecond.lbuf = s.lbuf := rfl
@[simp] theorem State.expectSecond_life (s : State) : s.expectSecond.life = s.life := rfl
@[simp] theorem State.expectSecond_params (s : State) : s.expectSecond.params = s.params := rfl
@[simp] theorem State.expectSecond_pending (s : State) : s.expectSecond.pending = s.pending := rfl
@[simp] theorem State.expectSecond_result (s : State) : s.expectSecond.result = s.result := rfl

/-! ### expectFirst -/

@[simp] theorem State.expectFirst_vram (s : State) : s.expectFirst.vram = s.vram := rfl
@[simp] theorem State.expectFirst_reg (s : State) : s.expectFirst.reg = s.reg := rfl
@[simp] theorem State.expectFirst_addr (s : State) : s.expectFirst.addr = s.addr := rfl
@[simp] theorem State.expectFirst_rbuf (s : State) : s.expectFirst.rbuf = s.rbuf := rfl
@[simp] theorem State.expectFirst_second (s : State) : s.expectFirst.second = false := rfl
@[simp] theorem State.expectFirst_cmd (s : State) : s.expectFirst.cmd = s.cmd := rfl
@[simp] theorem State.expectFirst_v (s : State) : s.expectFirst.v = s.v := rfl
@[simp] theorem State.expectFirst_vblank (s : State) : s.expectFirst.vblank = s.vblank := rfl
@[simp] theorem State.expectFirst_irq (s : State) : s.expectFirst.irq = s.irq := rfl
@[simp] theorem State.expectFirst_fb (s : State) : s.expectFirst.fb = s.fb := rfl
@[simp] theorem State.expectFirst_lbuf (s : State) : s.expectFirst.lbuf = s.lbuf := rfl
@[simp] theorem State.expectFirst_life (s : State) : s.expectFirst.life = s.life := rfl
@[simp] theorem State.expectFirst_params (s : State) : s.expectFirst.params = s.params := rfl
@[simp] theorem State.expectFirst_pending (s : State) : s.expectFirst.pending = s.pending := rfl
@[simp] theorem State.expectFirst_result (s : State) : s.expectFirst.result = s.result := rfl

/-! ### acknowledge -/

@[simp] theorem State.acknowledge_vram (s : State) : s.acknowledge.vram = s.vram := rfl
@[simp] theorem State.acknowledge_reg (s : State) : s.acknowledge.reg = s.reg := rfl
@[simp] theorem State.acknowledge_addr (s : State) : s.acknowledge.addr = s.addr := rfl
@[simp] theorem State.acknowledge_rbuf (s : State) : s.acknowledge.rbuf = s.rbuf := rfl
@[simp] theorem State.acknowledge_second (s : State) : s.acknowledge.second = false := rfl
@[simp] theorem State.acknowledge_cmd (s : State) : s.acknowledge.cmd = s.cmd := rfl
@[simp] theorem State.acknowledge_v (s : State) : s.acknowledge.v = s.v := rfl
@[simp] theorem State.acknowledge_vblank (s : State) : s.acknowledge.vblank = false := rfl
@[simp] theorem State.acknowledge_irq (s : State) : s.acknowledge.irq = if s.params.statusClearsIrq then false else s.irq := rfl
@[simp] theorem State.acknowledge_fb (s : State) : s.acknowledge.fb = s.fb := rfl
@[simp] theorem State.acknowledge_lbuf (s : State) : s.acknowledge.lbuf = s.lbuf := rfl
@[simp] theorem State.acknowledge_life (s : State) : s.acknowledge.life = s.life := rfl
@[simp] theorem State.acknowledge_params (s : State) : s.acknowledge.params = s.params := rfl
@[simp] theorem State.acknowledge_pending (s : State) : s.acknowledge.pending = s.pending := rfl
@[simp] theorem State.acknowledge_result (s : State) : s.acknowledge.result = s.result := rfl

/-! ### fillBackdrop -/

@[simp] theorem State.fillBackdrop_vram (s : State) : s.fillBackdrop.vram = s.vram := rfl
@[simp] theorem State.fillBackdrop_reg (s : State) : s.fillBackdrop.reg = s.reg := rfl
@[simp] theorem State.fillBackdrop_addr (s : State) : s.fillBackdrop.addr = s.addr := rfl
@[simp] theorem State.fillBackdrop_rbuf (s : State) : s.fillBackdrop.rbuf = s.rbuf := rfl
@[simp] theorem State.fillBackdrop_second (s : State) : s.fillBackdrop.second = s.second := rfl
@[simp] theorem State.fillBackdrop_cmd (s : State) : s.fillBackdrop.cmd = s.cmd := rfl
@[simp] theorem State.fillBackdrop_v (s : State) : s.fillBackdrop.v = s.v := rfl
@[simp] theorem State.fillBackdrop_vblank (s : State) : s.fillBackdrop.vblank = s.vblank := rfl
@[simp] theorem State.fillBackdrop_irq (s : State) : s.fillBackdrop.irq = s.irq := rfl
@[simp] theorem State.fillBackdrop_fb (s : State) : s.fillBackdrop.fb = s.fb := rfl
@[simp] theorem State.fillBackdrop_lbuf (s : State) : s.fillBackdrop.lbuf = Line.filled s.backRgb := rfl
@[simp] theorem State.fillBackdrop_life (s : State) : s.fillBackdrop.life = s.life := rfl
@[simp] theorem State.fillBackdrop_params (s : State) : s.fillBackdrop.params = s.params := rfl
@[simp] theorem State.fillBackdrop_pending (s : State) : s.fillBackdrop.pending = s.pending := rfl
@[simp] theorem State.fillBackdrop_result (s : State) : s.fillBackdrop.result = s.result := rfl

/-! ### commit -/

@[simp] theorem State.commit_vram (s : State) (v : Nat) : (s.commit v).vram = s.vram := rfl
@[simp] theorem State.commit_reg (s : State) (v : Nat) : (s.commit v).reg = s.reg := rfl
@[simp] theorem State.commit_addr (s : State) (v : Nat) : (s.commit v).addr = s.addr := rfl
@[simp] theorem State.commit_rbuf (s : State) (v : Nat) : (s.commit v).rbuf = s.rbuf := rfl
@[simp] theorem State.commit_second (s : State) (v : Nat) : (s.commit v).second = s.second := rfl
@[simp] theorem State.commit_cmd (s : State) (v : Nat) : (s.commit v).cmd = s.cmd := rfl
@[simp] theorem State.commit_v (s : State) (v : Nat) : (s.commit v).v = s.v := rfl
@[simp] theorem State.commit_vblank (s : State) (v : Nat) : (s.commit v).vblank = s.vblank := rfl
@[simp] theorem State.commit_irq (s : State) (v : Nat) : (s.commit v).irq = s.irq := rfl
@[simp] theorem State.commit_fb (s : State) (v : Nat) : (s.commit v).fb = s.fb.put v s.lbuf := rfl
@[simp] theorem State.commit_lbuf (s : State) (v : Nat) : (s.commit v).lbuf = Line.black := rfl
@[simp] theorem State.commit_life (s : State) (v : Nat) : (s.commit v).life = s.life := rfl
@[simp] theorem State.commit_params (s : State) (v : Nat) : (s.commit v).params = s.params := rfl
@[simp] theorem State.commit_pending (s : State) (v : Nat) : (s.commit v).pending = s.pending := rfl
@[simp] theorem State.commit_result (s : State) (v : Nat) : (s.commit v).result = s.result := rfl

/-! ### nextLine -/

@[simp] theorem State.nextLine_vram (s : State) : s.nextLine.vram = s.vram := rfl
@[simp] theorem State.nextLine_reg (s : State) : s.nextLine.reg = s.reg := rfl
@[simp] theorem State.nextLine_addr (s : State) : s.nextLine.addr = s.addr := rfl
@[simp] theorem State.nextLine_rbuf (s : State) : s.nextLine.rbuf = s.rbuf := rfl
@[simp] theorem State.nextLine_second (s : State) : s.nextLine.second = s.second := rfl
@[simp] theorem State.nextLine_cmd (s : State) : s.nextLine.cmd = s.cmd := rfl
@[simp] theorem State.nextLine_v (s : State) : s.nextLine.v = (s.v + 1) % scanlines := rfl
@[simp] theorem State.nextLine_vblank (s : State) : s.nextLine.vblank = s.vblank := rfl
@[simp] theorem State.nextLine_irq (s : State) : s.nextLine.irq = s.irq := rfl
@[simp] theorem State.nextLine_fb (s : State) : s.nextLine.fb = s.fb := rfl
@[simp] theorem State.nextLine_lbuf (s : State) : s.nextLine.lbuf = s.lbuf := rfl
@[simp] theorem State.nextLine_life (s : State) : s.nextLine.life = s.life := rfl
@[simp] theorem State.nextLine_params (s : State) : s.nextLine.params = s.params := rfl
@[simp] theorem State.nextLine_pending (s : State) : s.nextLine.pending = s.pending := rfl
@[simp] theorem State.nextLine_result (s : State) : s.nextLine.result = s.result := rfl

/-! ### enterVblank -/

@[simp] theorem State.enterVblank_vram (s : State) : s.enterVblank.vram = s.vram := by
  unfold State.enterVblank; dsimp only; split <;> rfl
@[simp] theorem State.enterVblank_reg (s : State) : s.enterVblank.reg = s.reg := by
  unfold State.enterVblank; dsimp only; split <;> rfl
@[simp] theorem State.enterVblank_addr (s : State) : s.enterVblank.addr = s.addr := by
  unfold State.enterVblank; dsimp only; split <;> rfl
@[simp] theorem State.enterVblank_rbuf (s : State) : s.enterVblank.rbuf = s.rbuf := by
  unfold State.enterVblank; dsimp only; split <;> rfl
@[simp] theorem State.enterVblank_second (s : State) : s.enterVblank.second = s.second := by
  unfold State.enterVblank; dsimp only; split <;> rfl
@[simp] theorem State.enterVblank_cmd (s : State) : s.enterVblank.cmd = s.cmd := by
  unfold State.enterVblank; dsimp only; split <;> rfl
@[simp] theorem State.enterVblank_v (s : State) : s.enterVblank.v = s.v := by
  unfold State.enterVblank; dsimp only; split <;> rfl
@[simp] theorem State.enterVblank_vblank (s : State) : s.enterVblank.vblank = true := by
  unfold State.enterVblank; dsimp only; split <;> rfl
@[simp] theorem State.enterVblank_irq (s : State) : s.enterVblank.irq = (s.irq || s.interruptEnable) := by
  unfold State.enterVblank State.interruptEnable State.readReg; dsimp only; split <;> simp_all
@[simp] theorem State.enterVblank_fb (s : State) : s.enterVblank.fb = s.fb := by
  unfold State.enterVblank; dsimp only; split <;> rfl
@[simp] theorem State.enterVblank_lbuf (s : State) : s.enterVblank.lbuf = s.lbuf := by
  unfold State.enterVblank; dsimp only; split <;> rfl
@[simp] theorem State.enterVblank_life (s : State) : s.enterVblank.life = s.life := by
  unfold State.enterVblank; dsimp only; split <;> rfl
@[simp] theorem State.enterVblank_params (s : State) : s.enterVblank.params = s.params := by
  unfold State.enterVblank; dsimp only; split <;> rfl
@[simp] theorem State.enterVblank_pending (s : State) : s.enterVblank.pending = s.pending := by
  unfold State.enterVblank; dsimp only; split <;> rfl
@[simp] theorem State.enterVblank_result (s : State) : s.enterVblank.result = s.result := by
  unfold State.enterVblank; dsimp only; split <;> rfl

/-! ### armOnWrite -/

@[simp] theorem State.armOnWrite_vram (s : State) (n : BitVec 3) (b : Byte) : (s.armOnWrite n b).vram = s.vram := by
  unfold State.armOnWrite; split <;> rfl
@[simp] theorem State.armOnWrite_reg (s : State) (n : BitVec 3) (b : Byte) : (s.armOnWrite n b).reg = s.reg := by
  unfold State.armOnWrite; split <;> rfl
@[simp] theorem State.armOnWrite_addr (s : State) (n : BitVec 3) (b : Byte) : (s.armOnWrite n b).addr = s.addr := by
  unfold State.armOnWrite; split <;> rfl
@[simp] theorem State.armOnWrite_rbuf (s : State) (n : BitVec 3) (b : Byte) : (s.armOnWrite n b).rbuf = s.rbuf := by
  unfold State.armOnWrite; split <;> rfl
@[simp] theorem State.armOnWrite_second (s : State) (n : BitVec 3) (b : Byte) : (s.armOnWrite n b).second = s.second := by
  unfold State.armOnWrite; split <;> rfl
@[simp] theorem State.armOnWrite_cmd (s : State) (n : BitVec 3) (b : Byte) : (s.armOnWrite n b).cmd = s.cmd := by
  unfold State.armOnWrite; split <;> rfl
@[simp] theorem State.armOnWrite_v (s : State) (n : BitVec 3) (b : Byte) : (s.armOnWrite n b).v = s.v := by
  unfold State.armOnWrite; split <;> rfl
@[simp] theorem State.armOnWrite_vblank (s : State) (n : BitVec 3) (b : Byte) : (s.armOnWrite n b).vblank = s.vblank := by
  unfold State.armOnWrite; split <;> rfl
@[simp] theorem State.armOnWrite_irq (s : State) (n : BitVec 3) (b : Byte) : (s.armOnWrite n b).irq = (s.irq || (n == 1 && s.vblank && b.getLsbD 5)) := by
  unfold State.armOnWrite; split <;> simp_all
@[simp] theorem State.armOnWrite_fb (s : State) (n : BitVec 3) (b : Byte) : (s.armOnWrite n b).fb = s.fb := by
  unfold State.armOnWrite; split <;> rfl
@[simp] theorem State.armOnWrite_lbuf (s : State) (n : BitVec 3) (b : Byte) : (s.armOnWrite n b).lbuf = s.lbuf := by
  unfold State.armOnWrite; split <;> rfl
@[simp] theorem State.armOnWrite_life (s : State) (n : BitVec 3) (b : Byte) : (s.armOnWrite n b).life = s.life := by
  unfold State.armOnWrite; split <;> rfl
@[simp] theorem State.armOnWrite_params (s : State) (n : BitVec 3) (b : Byte) : (s.armOnWrite n b).params = s.params := by
  unfold State.armOnWrite; split <;> rfl
@[simp] theorem State.armOnWrite_pending (s : State) (n : BitVec 3) (b : Byte) : (s.armOnWrite n b).pending = s.pending := by
  unfold State.armOnWrite; split <;> rfl
@[simp] theorem State.armOnWrite_result (s : State) (n : BitVec 3) (b : Byte) : (s.armOnWrite n b).result = s.result := by
  unfold State.armOnWrite; split <;> rfl

/-! ### drawOverlay -/

@[simp] theorem State.drawOverlay_vram (s : State) (v : Nat) : (s.drawOverlay v).vram = s.vram := by
  unfold State.drawOverlay; split <;> rfl
@[simp] theorem State.drawOverlay_reg (s : State) (v : Nat) : (s.drawOverlay v).reg = s.reg := by
  unfold State.drawOverlay; split <;> rfl
@[simp] theorem State.drawOverlay_addr (s : State) (v : Nat) : (s.drawOverlay v).addr = s.addr := by
  unfold State.drawOverlay; split <;> rfl
@[simp] theorem State.drawOverlay_rbuf (s : State) (v : Nat) : (s.drawOverlay v).rbuf = s.rbuf := by
  unfold State.drawOverlay; split <;> rfl
@[simp] theorem State.drawOverlay_second (s : State) (v : Nat) : (s.drawOverlay v).second = s.second := by
  unfold State.drawOverlay; split <;> rfl
@[simp] theorem State.drawOverlay_cmd (s : State) (v : Nat) : (s.drawOverlay v).cmd = s.cmd := by
  unfold State.drawOverlay; split <;> rfl
@[simp] theorem State.drawOverlay_v (s : State) (v : Nat) : (s.drawOverlay v).v = s.v := by
  unfold State.drawOverlay; split <;> rfl
@[simp] theorem State.drawOverlay_vblank (s : State) (v : Nat) : (s.drawOverlay v).vblank = s.vblank := by
  unfold State.drawOverlay; split <;> rfl
@[simp] theorem State.drawOverlay_irq (s : State) (v : Nat) : (s.drawOverlay v).irq = s.irq := by
  unfold State.drawOverlay; split <;> rfl
@[simp] theorem State.drawOverlay_fb (s : State) (v : Nat) : (s.drawOverlay v).fb = s.fb := by
  unfold State.drawOverlay; split <;> rfl
@[simp] theorem State.drawOverlay_lbuf (s : State) (v : Nat) : (s.drawOverlay v).lbuf = if s.displayEnable then s.overlay v s.lbuf else s.lbuf := by
  unfold State.drawOverlay; split <;> rfl
@[simp] theorem State.drawOverlay_life (s : State) (v : Nat) : (s.drawOverlay v).life = s.life := by
  unfold State.drawOverlay; split <;> rfl
@[simp] theorem State.drawOverlay_params (s : State) (v : Nat) : (s.drawOverlay v).params = s.params := by
  unfold State.drawOverlay; split <;> rfl
@[simp] theorem State.drawOverlay_pending (s : State) (v : Nat) : (s.drawOverlay v).pending = s.pending := by
  unfold State.drawOverlay; split <;> rfl
@[simp] theorem State.drawOverlay_result (s : State) (v : Nat) : (s.drawOverlay v).result = s.result := by
  unfold State.drawOverlay; split <;> rfl

/-! ### renderLine -/

@[simp] theorem State.renderLine_vram (s : State) (v : Nat) : (s.renderLine v).vram = s.vram := by simp [State.renderLine]
@[simp] theorem State.renderLine_reg (s : State) (v : Nat) : (s.renderLine v).reg = s.reg := by simp [State.renderLine]
@[simp] theorem State.renderLine_addr (s : State) (v : Nat) : (s.renderLine v).addr = s.addr := by simp [State.renderLine]
@[simp] theorem State.renderLine_rbuf (s : State) (v : Nat) : (s.renderLine v).rbuf = s.rbuf := by simp [State.renderLine]
@[simp] theorem State.renderLine_second (s : State) (v : Nat) : (s.renderLine v).second = s.second := by simp [State.renderLine]
@[simp] theorem State.renderLine_cmd (s : State) (v : Nat) : (s.renderLine v).cmd = s.cmd := by simp [State.renderLine]
@[simp] theorem State.renderLine_v (s : State) (v : Nat) : (s.renderLine v).v = s.v := by simp [State.renderLine]
@[simp] theorem State.renderLine_vblank (s : State) (v : Nat) : (s.renderLine v).vblank = s.vblank := by simp [State.renderLine]
@[simp] theorem State.renderLine_irq (s : State) (v : Nat) : (s.renderLine v).irq = s.irq := by simp [State.renderLine]
@[simp] theorem State.renderLine_fb (s : State) (v : Nat) :
    (s.renderLine v).fb = s.fb.put v (s.fillBackdrop.drawOverlay v).lbuf := by
  simp [State.renderLine]
@[simp] theorem State.renderLine_lbuf (s : State) (v : Nat) : (s.renderLine v).lbuf = Line.black := rfl
@[simp] theorem State.renderLine_life (s : State) (v : Nat) : (s.renderLine v).life = s.life := by simp [State.renderLine]
@[simp] theorem State.renderLine_params (s : State) (v : Nat) : (s.renderLine v).params = s.params := by simp [State.renderLine]
@[simp] theorem State.renderLine_pending (s : State) (v : Nat) : (s.renderLine v).pending = s.pending := by simp [State.renderLine]
@[simp] theorem State.renderLine_result (s : State) (v : Nat) : (s.renderLine v).result = s.result := by simp [State.renderLine]

/-! ### regWrite -/

@[simp] theorem State.regWrite_vram (s : State) (n : BitVec 3) (b : Byte) : (s.regWrite n b).vram = s.vram := by simp [State.regWrite]
@[simp] theorem State.regWrite_reg (s : State) (n : BitVec 3) (b : Byte) : (s.regWrite n b).reg = s.reg.set n.toNat b n.isLt := by simp [State.regWrite]
@[simp] theorem State.regWrite_addr (s : State) (n : BitVec 3) (b : Byte) : (s.regWrite n b).addr = s.addr := by simp [State.regWrite]
@[simp] theorem State.regWrite_rbuf (s : State) (n : BitVec 3) (b : Byte) : (s.regWrite n b).rbuf = s.rbuf := by simp [State.regWrite]
@[simp] theorem State.regWrite_second (s : State) (n : BitVec 3) (b : Byte) : (s.regWrite n b).second = s.second := by simp [State.regWrite]
@[simp] theorem State.regWrite_cmd (s : State) (n : BitVec 3) (b : Byte) : (s.regWrite n b).cmd = s.cmd := by simp [State.regWrite]
@[simp] theorem State.regWrite_v (s : State) (n : BitVec 3) (b : Byte) : (s.regWrite n b).v = s.v := by simp [State.regWrite]
@[simp] theorem State.regWrite_vblank (s : State) (n : BitVec 3) (b : Byte) : (s.regWrite n b).vblank = s.vblank := by simp [State.regWrite]
@[simp] theorem State.regWrite_irq (s : State) (n : BitVec 3) (b : Byte) : (s.regWrite n b).irq = (s.irq || (n == 1 && s.vblank && b.getLsbD 5)) := by simp [State.regWrite]
@[simp] theorem State.regWrite_fb (s : State) (n : BitVec 3) (b : Byte) : (s.regWrite n b).fb = s.fb := by simp [State.regWrite]
@[simp] theorem State.regWrite_lbuf (s : State) (n : BitVec 3) (b : Byte) : (s.regWrite n b).lbuf = s.lbuf := by simp [State.regWrite]
@[simp] theorem State.regWrite_life (s : State) (n : BitVec 3) (b : Byte) : (s.regWrite n b).life = s.life := by simp [State.regWrite]
@[simp] theorem State.regWrite_params (s : State) (n : BitVec 3) (b : Byte) : (s.regWrite n b).params = s.params := by simp [State.regWrite]
@[simp] theorem State.regWrite_pending (s : State) (n : BitVec 3) (b : Byte) : (s.regWrite n b).pending = s.pending := by simp [State.regWrite]
@[simp] theorem State.regWrite_result (s : State) (n : BitVec 3) (b : Byte) : (s.regWrite n b).result = s.result := by simp [State.regWrite]

end Sys2Proof.Machine
end

