-- ==== Sys2Proof/Laws/Ops.lean ====
section
/-! SUPPORT. One lemma for each shared operation, saying once everything it can do. -/

namespace Sys2Proof.Machine

open Sys2Proof.Config

/-! ### VRAM through the state -/

@[simp] theorem State.readVram_writeVram_same {s : State} (a : VramAddr) (b : Byte) (h : Memory.wf s.vram = true) :
    (s.writeVram a b).readVram a = b := Memory.read_write_same a b h

theorem State.readVram_writeVram_other (s : State) {a a' : VramAddr} (b : Byte) (h : a' ≠ a) :
    (s.writeVram a b).readVram a' = s.readVram a' := Memory.read_write_other s.vram b h

theorem State.readVram_congr {s t : State} (h : s.vram = t.vram) (a : VramAddr) : s.readVram a = t.readVram a := by
  simp [State.readVram, h]

/-! ### Registers -/

@[simp] theorem State.readReg_writeReg_same (s : State) (n : BitVec 3) (b : Byte) : (s.writeReg n b).readReg n = b := by
  simp [State.readReg, State.writeReg]

theorem State.readReg_writeReg_other (s : State) {n m : BitVec 3} (b : Byte) (h : m ≠ n) :
    (s.writeReg n b).readReg m = s.readReg m := by
  have h' : n.toNat ≠ m.toNat := fun e => h (BitVec.eq_of_toNat_eq e.symm)
  simp only [State.readReg, State.writeReg]
  rw [Vector.getElem_set_ne]
  exact h'

theorem State.readReg_congr {s t : State} (h : s.reg = t.reg) (n : BitVec 3) : s.readReg n = t.readReg n := by
  simp [State.readReg, h]

/-! ### Lines and frames -/

@[simp] theorem Line.getElem_filled (c : RGB) (x : Nat) (hx : x < lineWidth) : (Line.filled c)[x] = c := by
  simp [Line.filled]

@[simp] theorem Line.getElem_black (x : Nat) (hx : x < lineWidth) : Line.black[x] = RGB.black := by
  simp [Line.black]

theorem Line.getElem_put (l : Line) (x y : Nat) (c : RGB) (hy : y < lineWidth) :
    (l.put x c)[y] = if x = y then c else l[y] := by
  unfold Line.put
  split
  · rw [Vector.getElem_set]
  · rw [if_neg (by omega)]

theorem Frame.getElem_put (f : Frame) (y z : Nat) (l : Line) (hz : z < frameHeight) :
    (f.put y l)[z] = if y = z then l else f[z] := by
  unfold Frame.put
  split
  · rw [Vector.getElem_set]
  · rw [if_neg (by omega)]

/-- A drawn cell: its `n` pixels, and the line as it was outside them. -/
theorem Line.getElem_drawCell (l : Line) (x0 n : Nat) (px : Nat → RGB) (y : Nat) (hy : y < lineWidth) :
    (l.drawCell x0 n px)[y] = if x0 ≤ y ∧ y < x0 + n then px (y - x0) else l[y] := by
  unfold Line.drawCell
  induction n with
  | zero => simp
  | succ n ih =>
    rw [List.range_succ, List.foldl_concat, Line.getElem_put, ih]
    by_cases h : x0 + n = y
    · subst h; simp
    · rw [if_neg h]
      by_cases h' : x0 ≤ y ∧ y < x0 + n
      · rw [if_pos h', if_pos ⟨h'.1, by omega⟩]
      · rw [if_neg h', if_neg (by omega)]

/-! ### Ending a transaction -/

@[simp] theorem State.finish_eq (r : HostResult) (s : State) : s.finish r = .next { s with result := r } := rfl

theorem State.whenLive_of_live {s : State} (h : s.life = .live) (k : State → Result) : s.whenLive k = k s := by
  simp [State.whenLive, h]

/-- A transaction checked by `whenLive` answers a next state only on a live device. -/
theorem State.whenLive_next_iff {s t : State} {k : State → Result} :
    s.whenLive k = .next t ↔ s.life = .live ∧ k s = .next t := by
  unfold State.whenLive
  cases h : s.life <;> simp

theorem State.whenLive_refused_of_absent {s : State} (h : s.life = .absent) (k : State → Result) :
    s.whenLive k = .refused .noDevice := by simp [State.whenLive, h]

theorem State.whenLive_refused_of_shut {s : State} (h : s.life = .shut) (k : State → Result) :
    s.whenLive k = .refused .deviceShut := by simp [State.whenLive, h]

end Sys2Proof.Machine
end

