-- ==== Sys2Proof/Laws/PerInstr.lean ====
section
/-! SUPPORT. Per-instruction families. TableRow: the encoder's word of each transaction is a word of its row in
spec/opcode_table.json (mask and match), the low byte 0x00 where the row has no operand. -/

namespace Sys2Proof.Laws.TableRow

/-- The encoded word carries the row's fixed bits. -/
def Statement (i : Instr) : Prop := encode i &&& i.rowMask = i.rowMatch

theorem init : Statement .init := by unfold Statement; decide
theorem shutdown : Statement .shutdown := by unfold Statement; decide

theorem wcFirst (b : Byte) : Statement (.wcFirst b) := by
  revert b; unfold Statement; decide

theorem wcRsetup (a : BitVec 6) : Statement (.wcRsetup a) := by
  revert a; unfold Statement; decide

theorem wcWsetup (a : BitVec 6) : Statement (.wcWsetup a) := by
  revert a; unfold Statement; decide

theorem wcReg (x r : BitVec 3) : Statement (.wcReg x r) := by
  revert x r; unfold Statement; decide

theorem wcReg3 (x r : BitVec 3) : Statement (.wcReg3 x r) := by
  revert x r; unfold Statement; decide

theorem wd (b : Byte) : Statement (.wd b) := by
  revert b; unfold Statement; decide

theorem rd : Statement .rd := by unfold Statement; decide
theorem rs : Statement .rs := by unfold Statement; decide
theorem tick : Statement .tick := by unfold Statement; decide
theorem ci : Statement .ci := by unfold Statement; decide
theorem fb : Statement .fb := by unfold Statement; decide
theorem width : Statement .width := by unfold Statement; decide
theorem height : Statement .height := by unfold Statement; decide
theorem spf : Statement .spf := by unfold Statement; decide

end Sys2Proof.Laws.TableRow
end

