-- ==== Sys2Proof/Laws/Renderer.lean ====
section
/-! SUPPORT. What the renderer's shared operations do: a row of cells, the tile's palette index, the rows after a render. -/

namespace Sys2Proof.Machine

open Sys2Proof.Config

/-- A row of `n` cells of `w` pixels, the first at column `off`: column `y` belongs to cell `(y - off) / w`, and the line is as
it was outside the cells. -/
theorem Line.getElem_drawCells {n w off : Nat} (hw : 0 < w) {px : Nat → Nat → RGB} {cell : Line → Nat → Line}
    (hc : ∀ l c, cell l c = l.drawCell (c * w + off) w (px c)) (l : Line) (y : Nat) (hy : y < lineWidth) :
    (l.drawCells n cell)[y] = if off ≤ y ∧ y < n * w + off then px ((y - off) / w) ((y - off) % w) else l[y] := by
  unfold Line.drawCells
  induction n with
  | zero => rw [if_neg (by omega)]; rfl
  | succ n ih =>
    rw [List.range_succ, List.foldl_concat, hc, Line.getElem_drawCell, ih]
    have hn : (n + 1) * w = n * w + w := by ring
    by_cases h1 : n * w + off ≤ y ∧ y < n * w + off + w
    · have hd : (y - off) / w = n := Nat.div_eq_of_lt_le (by omega) (by rw [hn]; omega)
      have hm : (y - off) % w = y - (n * w + off) := by
        have := Nat.div_add_mod (y - off) w
        rw [hd, Nat.mul_comm] at this
        omega
      rw [if_pos h1, if_pos (by rw [hn]; omega), hd, hm]
    · rw [if_neg h1]
      by_cases h2 : off ≤ y ∧ y < n * w + off
      · rw [if_pos h2, if_pos (by rw [hn]; omega)]
      · rw [if_neg h2, if_neg (by rw [hn]; omega)]

/-- Row `v` after a render of line `v` is the line buffer as it was committed (R180). -/
theorem State.renderLine_row (s : State) (v : Nat) (hv : v < frameHeight) :
    (s.renderLine v).fb[v] = (s.fillBackdrop.drawOverlay v).lbuf := by
  have h := Frame.getElem_put s.fb v v (s.fillBackdrop.drawOverlay v).lbuf hv
  rw [if_pos rfl] at h
  exact (congrArg (fun f : Frame => f[v]) (State.renderLine_fb s v)).trans h

/-- "Rows other than v are unchanged" (R180). -/
theorem State.renderLine_row_other (s : State) {v y : Nat} (hy : y < frameHeight) (h : y ≠ v) :
    (s.renderLine v).fb[y] = s.fb[y] := by
  have h' := Frame.getElem_put s.fb v y (s.fillBackdrop.drawOverlay v).lbuf hy
  rw [if_neg (Ne.symm h)] at h'
  exact (congrArg (fun f : Frame => f[y]) (State.renderLine_fb s v)).trans h'

/-- One bit of a byte, taken by shift and mask. -/
theorem shift_and_one (b : Byte) (k : Nat) : (b.toNat >>> k) &&& 1 = (b.getLsbD k).toNat := by
  rw [BitVec.getLsbD, Nat.testBit_eq_decide_div_mod_eq, Nat.and_one_is_mod, Nat.shiftRight_eq_div_pow]
  rcases Nat.mod_two_eq_zero_or_one (b.toNat / 2 ^ k) with h | h <;> simp [h]

/-- The palette index of a tile's pixel in plain arithmetic (R62, R94). -/
theorem tileIndex_eq (pattern color p : Nat) :
    tileIndex pattern color p = if pattern / 2 ^ (7 - p) % 2 = 1 then color / 16 else color % 16 := by
  unfold tileIndex patternBit
  rw [Nat.and_one_is_mod, Nat.shiftRight_eq_div_pow, Nat.shiftRight_eq_div_pow,
    show color &&& 0x0F = color % 16 from Nat.and_two_pow_sub_one_eq_mod _ 4]
  simp

end Sys2Proof.Machine
end

