-- ==== Sys2Proof/Laws/Words.lean ====
section
/-! SUPPORT. Words and their halves: the fields of a transaction word, and the command word and latch after each control
byte as concatenations. -/

namespace Sys2Proof

@[simp] theorem kind_transactionWord (k : BitVec 4) (b : Byte) : (transactionWord k b).kind = k := by
  unfold transactionWord TransactionWord.kind
  exact BitVec.extractLsb'_append_eq_left

@[simp] theorem operand_transactionWord (k : BitVec 4) (b : Byte) : (transactionWord k b).operand = b := by
  unfold transactionWord TransactionWord.operand
  exact BitVec.extractLsb'_append_eq_right

/-- A word is its kind over its operand byte. -/
theorem eq_transactionWord (w : TransactionWord) : w = transactionWord w.kind w.operand := by
  unfold transactionWord TransactionWord.kind TransactionWord.operand
  apply BitVec.eq_of_getLsbD_eq
  intro i hi
  have : i < 12 := hi
  simp only [BitVec.getLsbD_append, BitVec.getLsbD_extractLsb']
  split
  · simp [*]
  · rw [show 8 + (i - 8) = i by omega]
    simp; omega

namespace Machine

/-- The command word after a first byte (R100): the byte in the low half. -/
theorem commandWord_first (c : CommandWord) (b : Byte) :
    (c &&& 0xFF00#16) ||| b.setWidth 16 = c.extractLsb' 8 8 ++ b := by
  apply BitVec.eq_of_getLsbD_eq
  intro i hi
  have : i < 16 := hi
  interval_cases i <;> simp only [BitVec.getLsbD_or, BitVec.getLsbD_and, BitVec.getLsbD_setWidth,
    BitVec.getLsbD_append, BitVec.getLsbD_extractLsb'] <;> simp

/-- The latch after a first byte (R100): the byte in the low half. -/
theorem latch_first (c : VramAddr) (b : Byte) :
    (c &&& 0x3F00#14) ||| b.setWidth 14 = c.extractLsb' 8 6 ++ b := by
  apply BitVec.eq_of_getLsbD_eq
  intro i hi
  have : i < 14 := hi
  interval_cases i <;> simp only [BitVec.getLsbD_or, BitVec.getLsbD_and, BitVec.getLsbD_setWidth,
    BitVec.getLsbD_append, BitVec.getLsbD_extractLsb'] <;> simp

/-- The command word after a second byte (R103): the byte in the high half. -/
theorem commandWord_second (c : CommandWord) (b : Byte) :
    (b.setWidth 16 <<< 8) ||| (c &&& 0x00FF#16) = b ++ c.extractLsb' 0 8 := by
  apply BitVec.eq_of_getLsbD_eq
  intro i hi
  have : i < 16 := hi
  interval_cases i <;> simp only [BitVec.getLsbD_or, BitVec.getLsbD_and, BitVec.getLsbD_setWidth,
    BitVec.getLsbD_append, BitVec.getLsbD_extractLsb', BitVec.getLsbD_shiftLeft] <;> simp

/-- The latch counts modulo 0x4000 (20_memory.md R64). -/
theorem latch_increment (a : VramAddr) : a + 1#14 = BitVec.ofNat 14 ((a.toNat + 1) % 0x4000) := by
  apply BitVec.eq_of_toNat_eq
  simp

@[simp] theorem commandValue_append (b v : Byte) : commandValue (b ++ v : BitVec 16) = v :=
  BitVec.extractLsb'_append_eq_right

/-- The address a VRAM setup assembles (R87): six bits of the second byte over the first. -/
theorem commandAddress_setup (k : BitVec 2) (a : BitVec 6) (v : Byte) :
    commandAddress (setupByte k a ++ v : BitVec 16) = a ++ v := by
  unfold commandAddress setupByte
  apply BitVec.eq_of_getLsbD_eq
  intro i hi
  have : i < 14 := hi
  interval_cases i <;> simp only [BitVec.getLsbD_append, BitVec.getLsbD_extractLsb'] <;> simp

/-- The register a register write names (R87), whatever the ignored bits. -/
theorem commandIndex_register (k : BitVec 2) (x r : BitVec 3) (v : Byte) :
    commandIndex (registerByte k x r ++ v : BitVec 16) = r := by
  unfold commandIndex registerByte
  apply BitVec.eq_of_getLsbD_eq
  intro i hi
  have : i < 3 := hi
  interval_cases i <;> simp only [BitVec.getLsbD_append, BitVec.getLsbD_extractLsb'] <;> simp

/-! ### The operations that write the command word, the latch and the registers, in terms of halves -/

theorem State.latchFirst_eq (s : State) (b : Byte) :
    s.latchFirst b = { s with cmd := s.cmd.extractLsb' 8 8 ++ b, addr := s.addr.extractLsb' 8 6 ++ b } := by
  exact congrArg₂ (fun c a => { s with cmd := c, addr := a }) (commandWord_first s.cmd b) (latch_first s.addr b)

theorem State.latchSecond_eq (s : State) (b : Byte) :
    s.latchSecond b = { s with cmd := b ++ s.cmd.extractLsb' 0 8 } := by
  exact congrArg (fun c => { s with cmd := c }) (commandWord_second s.cmd b)

theorem State.incAddr_eq (s : State) :
    s.incAddr = { s with addr := BitVec.ofNat 14 ((s.addr.toNat + 1) % 0x4000) } := by
  exact congrArg (fun a => { s with addr := a }) (latch_increment s.addr)

theorem State.armOnWrite_eq (s : State) (n : BitVec 3) (val : Byte) :
    s.armOnWrite n val = { s with irq := s.irq || (decide (n = 1) && s.vblank && val.getLsbD 5) } := by
  unfold State.armOnWrite
  split
  · rename_i h
    simp [State.armIrq, h.1, h.2.1, h.2.2]
  · rename_i h
    have h' : (decide (n = 1) && s.vblank && val.getLsbD 5) = false := by
      rw [Bool.eq_false_iff]
      simpa [and_assoc] using h
    rw [h', Bool.or_false]

/-- Everything the second byte of a register write does (R103, R130), whatever its command code and ignored bits. -/
theorem State.registerCommand_eq (s : State) (k : BitVec 2) (x r : BitVec 3) :
    s.registerCommand (registerByte k x r) = { s with
      reg := s.reg.set r.toNat (s.cmd.extractLsb' 0 8) r.isLt
      cmd := registerByte k x r ++ s.cmd.extractLsb' 0 8
      irq := s.irq || (decide (r = 1) && s.vblank && s.cmd.getLsbD 5)
      second := false } := by
  have h₁ := commandIndex_register k x r (s.cmd.extractLsb' 0 8)
  have h₂ := commandValue_append (registerByte k x r) (s.cmd.extractLsb' 0 8)
  have h₃ : (s.cmd.extractLsb' 0 8).getLsbD 5 = s.cmd.getLsbD 5 := by simp
  simp only [State.registerCommand, State.latchSecond_eq, State.regWrite, State.armOnWrite_eq, h₁, h₂, h₃]
  rfl

end Machine
end Sys2Proof
end

