-- ==== Sys2Proof/Laws/Run.lean ====
section
/-! SUPPORT. Runs put together, and the words a program item expands into. -/

namespace Sys2Proof.Safety

open Sys2Proof.Machine

@[simp] theorem run_zero (s : State) : run 0 s = .next s := rfl

/-- A run that begins with a completed step. -/
theorem run_succ_of_step {s t : State} (h : step s = .next t) (n : Nat) : run (n + 1) s = run n t := by
  simp only [run, h]

/-- A run is its first part and then the rest. -/
theorem run_add_of_run {s t : State} {m : Nat} (h : run m s = .next t) (n : Nat) : run (m + n) s = run n t := by
  induction m generalizing s with
  | zero =>
    obtain rfl : s = t := by simpa using h
    rw [Nat.zero_add]
  | succ m ih =>
    rw [Nat.add_right_comm]
    simp only [run] at h ⊢
    split at h
    · exact ih h
    · cases h
    · cases h

/-- The second byte of SETREG is the canonical second byte of a register write (R88, R92). -/
theorem setreg_secondByte (n : BitVec 3) : (0x80 : Byte) ||| n.setWidth 8 = registerByte 0b10 0 n := by
  revert n; decide

/-- SETREG as transactions. -/
theorem expand_setreg (n : BitVec 3) (v : Byte) :
    (ProgramItem.setreg n v).expand = [encode (.wcFirst v), encode (.wcReg 0 n)] := by
  simp only [ProgramItem.expand, encode, setreg_secondByte]

/-- SETR as transactions. -/
theorem expand_setr (a : VramAddr) :
    (ProgramItem.setr a).expand = [encode (.wcFirst (a.extractLsb' 0 8)), encode (.wcRsetup (a.extractLsb' 8 6))] := rfl

/-- SETW as transactions. -/
theorem expand_setw (a : VramAddr) :
    (ProgramItem.setw a).expand = [encode (.wcFirst (a.extractLsb' 0 8)), encode (.wcWsetup (a.extractLsb' 8 6))] := rfl

/-- SYNC is a status read. -/
theorem expand_sync : ProgramItem.sync.expand = [encode .rs] := rfl

/-- FRAME is 262 ticks. -/
theorem expand_frame : ProgramItem.frame.expand = List.replicate 262 (encode .tick) := rfl

/-- The two halves a setup sends are the address (R92). -/
theorem setup_halves (a : VramAddr) : (a.extractLsb' 8 6 ++ a.extractLsb' 0 8 : BitVec 14) = a := by
  apply BitVec.eq_of_getLsbD_eq
  intro i hi
  have : i < 14 := hi
  interval_cases i <;> simp only [BitVec.getLsbD_append, BitVec.getLsbD_extractLsb'] <;> simp

end Sys2Proof.Safety
end

