-- ==== Sys2Proof/Tests/Slice0.lean ====
section
/-! SUPPORT. Small tests, their expected results taken from spec/95_test_vectors.md (the vector is named at each), words
written out from 30_encoding.md, and for every obligation with hypotheses a concrete state and operands that meet them. -/

namespace Sys2Proof.Tests

open Sys2Proof.Machine Sys2Proof.Config Sys2Proof.Safety

/-! ### Helpers -/

/-- The state a transaction leaves, or the state itself where it does not complete. -/
def after (i : Instr) (s : State) : State :=
  match exec i s with
  | .next t => t
  | .fault _ => s
  | .refused _ => s

/-- Whether a transaction completes. -/
def completes (i : Instr) (s : State) : Bool :=
  match exec i s with
  | .next _ => true
  | .fault _ => false
  | .refused _ => false

/-- The refusal a transaction ends in. -/
def refusal (i : Instr) (s : State) : Option Refusal :=
  match exec i s with
  | .next _ => none
  | .fault _ => none
  | .refused r => some r

/-- Pixel (x, y) of the framebuffer. -/
def px (s : State) (y x : Nat) : Option RGB := s.fb[y]?.bind fun l => l[x]?

/-- The device after reset with eight register values. -/
def withRegs (reg : Vector Byte 8) : State := { State.reset with reg := reg }

/-- A live device in the second phase of the control port with a first byte latched. -/
def secondPhase (b : Byte) : State := { State.reset with second := true, cmd := b.setWidth 16, addr := b.setWidth 14 }

/-! ### WellFormed: each check refuses an ill-formed term -/

theorem test_wellFormed_refuses_first_byte_in_second_phase : (Instr.wcFirst 0x56).wellFormed true = false := by decide
theorem test_wellFormed_refuses_read_setup_in_first_phase : (Instr.wcRsetup 0x01).wellFormed false = false := by decide
theorem test_wellFormed_refuses_write_setup_in_first_phase : (Instr.wcWsetup 0x01).wellFormed false = false := by decide
theorem test_wellFormed_refuses_register_write_in_first_phase : (Instr.wcReg 0 1).wellFormed false = false := by decide
theorem test_wellFormed_refuses_register_write3_in_first_phase : (Instr.wcReg3 0 1).wellFormed false = false := by decide

/-! ### Decoding: words written out bit by bit from R80, R86 and R88 (kind, then operand) -/

theorem test_decode_init : decode false 0b0000_00000000 = .ok .init := by decide
theorem test_decode_shutdown : decode false 0b0001_00000000 = .ok .shutdown := by decide
theorem test_decode_wcFirst : decode false 0b0010_10000001 = .ok (.wcFirst 0x81) := by decide
theorem test_decode_wcRsetup : decode true 0b0010_00111111 = .ok (.wcRsetup 0b111111) := by decide
theorem test_decode_wcWsetup : decode true 0b0010_01000001 = .ok (.wcWsetup 0b000001) := by decide
theorem test_decode_wcReg : decode true 0b0010_10111010 = .ok (.wcReg 0b111 0b010) := by decide
theorem test_decode_wcReg3 : decode true 0b0010_11000111 = .ok (.wcReg3 0b000 0b111) := by decide
theorem test_decode_wd : decode true 0b0011_10101010 = .ok (.wd 0xAA) := by decide
theorem test_decode_rd_ignores_the_operand : decode true 0b0100_11111111 = .ok .rd := by decide
theorem test_decode_rs : decode false 0b0101_00000000 = .ok .rs := by decide
theorem test_decode_tick : decode false 0b0110_00000000 = .ok .tick := by decide
theorem test_decode_ci : decode false 0b0111_00000000 = .ok .ci := by decide
theorem test_decode_fb : decode false 0b1000_00000000 = .ok .fb := by decide
theorem test_decode_width : decode false 0b1001_00000000 = .ok .width := by decide
theorem test_decode_height : decode false 0b1010_00000000 = .ok .height := by decide
theorem test_decode_spf : decode false 0b1011_00000000 = .ok .spf := by decide

/-- L2-HQ-7. -/
theorem test_decode_refuses_kind_C : decode false 0xC00 = .error (.noSuchTransaction 0xC) := by decide

/-- P2 line 2, L1-S5 and P1 lines 7 and 8: the words of SETREG, SETW and SETR. -/
theorem test_expand_pairs :
    (ProgramItem.setreg 7 0x06).expand = [0x206, 0x287] ∧ (ProgramItem.setw 0x0100).expand = [0x200, 0x241] ∧
      (ProgramItem.setr 0x3FFE).expand = [0x2FE, 0x23F] := by decide

/-- R91: `TICK xN` is N ticks. -/
theorem test_expand_repeated_line : expandProgram [⟨.word 0x3AA, 1⟩, ⟨.word 0x600, 2⟩] = [0x3AA, 0x600, 0x600] := by decide

/-! ### The two host entry points -/

theorem test_table_words : decodeTableWord 16 0x27F = some (.wcWsetup 0x3F) ∧ decodeTableWord 16 0xC00 = none := by decide

theorem test_withFetchWord_runs_the_word :
    (match step (State.reset.withFetchWord 16 0x35A) with
      | .next t => t.rbuf
      | .fault _ => 0
      | .refused _ => 0) = 0x5A := by decide

/-! ### One step of each transaction -/

/-- L2-HQ-2: no device, then INIT. -/
theorem test_init_sets_vblank_and_vram :
    let s : State := { State.reset with life := .absent, vblank := false, params := { Params.default with vramInit := [(5, 0x77)] } }
    (after .init s).vblank = true ∧ (after .init s).readVram 5 = 0x77 ∧ (after .init s).life = .live := by decide

/-- L2-HQ-3. -/
theorem test_init_on_live_device_refused : refusal .init State.reset = some .deviceExists := by decide

/-- L2-HQ-4. -/
theorem test_shutdown_then_fb_refused :
    (after .shutdown State.reset).life = .shut ∧ refusal .fb (after .shutdown State.reset) = some .deviceShut := by decide

/-- L2-WC-1. -/
theorem test_wcFirst :
    let t := after (.wcFirst 0x56) { State.reset with addr := 0x1234 }
    t.cmd = 0x0056 ∧ t.addr = 0x1256 ∧ t.second = true := by decide

/-- L2-WC-2. -/
theorem test_wcRsetup_prefetches :
    let t := after (.wcRsetup 0x01) { secondPhase 0x00 with vram := [(0x0100, 0xAA)] }
    t.cmd = 0x0100 ∧ t.rbuf = 0xAA ∧ t.addr = 0x0101 ∧ t.second = false := by decide

/-- L2-WC-3. -/
theorem test_wcRsetup_wraps :
    let t := after (.wcRsetup 0x3F) { secondPhase 0xFF with vram := [(0x3FFF, 0x77)] }
    t.rbuf = 0x77 ∧ t.addr = 0x0000 := by decide

/-- L2-WC-4. -/
theorem test_wcWsetup_keeps_the_buffer :
    let t := after (.wcWsetup 0x01) { secondPhase 0x00 with rbuf := 0x99 }
    t.addr = 0x0100 ∧ t.rbuf = 0x99 ∧ t.second = false := by decide

/-- L2-WC-5. -/
theorem test_wcWsetup_top : (after (.wcWsetup 0x3F) (secondPhase 0xFF)).addr = 0x3FFF := by decide

/-- L2-WC-6 and L2-INT-3: R1 written with 0xC0 does not arm. -/
theorem test_wcReg_writes_R1 :
    let t := after (.wcReg 0 1) { secondPhase 0xC0 with addr := 0x12C0 }
    t.readReg 1 = 0xC0 ∧ t.addr = 0x12C0 ∧ t.irq = false ∧ t.second = false := by decide

/-- L2-INT-1, L2-INT-2 and L2-INT-4. -/
theorem test_wcReg_arms_only_while_vblank :
    (after (.wcReg 0 1) (secondPhase 0x20)).irq = true ∧
      (after (.wcReg 0 1) { secondPhase 0x20 with vblank := false }).irq = false ∧
      (after (.wcReg 0 1) { secondPhase 0x00 with irq := true }).irq = true := by decide

/-- L2-WC-7 and L2-WC-9. -/
theorem test_wcReg3_ignores_the_middle_bits :
    (after (.wcReg3 0 7) (secondPhase 0x5A)).readReg 7 = 0x5A ∧ (after (.wcReg3 7 7) (secondPhase 0x11)).readReg 7 = 0x11 := by
  decide

/-- L2-INT-6 and, through code 3 as well, L2-INT-5. -/
theorem test_wcReg3_arms_for_R1_only :
    (after (.wcReg3 0 1) (secondPhase 0xE0)).irq = true ∧ (after (.wcReg3 0 0) (secondPhase 0x20)).irq = false := by decide

/-- L2-WD-2. -/
theorem test_wd_wraps :
    let t := after (.wd 0x5A) { State.reset with addr := 0x3FFF }
    t.readVram 0x3FFF = 0x5A ∧ t.addr = 0x0000 ∧ t.rbuf = 0x5A := by decide

/-- L2-WD-3. -/
theorem test_wd_abandons_the_pair :
    let t := after (.wd 0x01) { State.reset with second := true, addr := 0x0200 }
    t.second = false ∧ t.readVram 0x0200 = 0x01 ∧ t.addr = 0x0201 := by decide

/-- L2-RD-1. -/
theorem test_rd_is_one_byte_behind :
    let t := after .rd { State.reset with rbuf := 0xAA, addr := 0x0101, vram := [(0x0101, 0x37)] }
    t.result = .byte 0xAA ∧ t.rbuf = 0x37 ∧ t.addr = 0x0102 := by decide

/-- L2-RD-4. -/
theorem test_rd_wraps :
    let t := after .rd { State.reset with rbuf := 0x10, addr := 0x3FFF, vram := [(0x3FFF, 0x20)] }
    t.result = .byte 0x10 ∧ t.rbuf = 0x20 ∧ t.addr = 0x0000 := by decide

/-- L2-RS-3. -/
theorem test_rs_clears_vblank_and_latch_flag :
    let t := after .rs { State.reset with second := true }
    t.result = .byte 0x80 ∧ t.second = false ∧ t.vblank = false := by decide

/-- L2-RS-4 and L2-RS-5. -/
theorem test_rs_folds_the_acknowledgement_by_parameter :
    (after .rs { State.reset with irq := true }).irq = true ∧
      (after .rs { State.reset with irq := true, params := { Params.default with statusClearsIrq := true } }).irq = false := by
  decide

/-- L2-TK-3: the boundary with IE. -/
theorem test_tick_boundary :
    let t := after .tick { withRegs #v[0, 0x20, 0, 0, 0, 0, 0, 0] with v := 192, vblank := false }
    t.vblank = true ∧ t.irq = true ∧ t.v = 193 := by decide

/-- L2-TK-5: the wrap. -/
theorem test_tick_wraps :
    let t := after .tick { State.reset with v := 261, vblank := false }
    t.v = 0 ∧ t.vblank = false := by decide

/-- L2-CI-3. -/
theorem test_ci_consumes :
    let t := after .ci { State.reset with irq := true, second := true }
    t.result = .bool true ∧ t.irq = false ∧ t.vblank = true ∧ t.second = true := by decide

/-- L2-CI-2. -/
theorem test_ci_without_interrupt : (after .ci State.reset).result = .bool false := by decide

/-- L2-HQ-6. -/
theorem test_constants :
    (after .width State.reset).result = .number 256 ∧ (after .height State.reset).result = .number 192 ∧
      (after .spf State.reset).result = .number 262 := by decide

/-- L2-HQ-5, one pixel. -/
theorem test_fb_returns_the_frame : (after .fb State.reset).result = .frame Frame.black := rfl

/-! ### The renderer -/

set_option maxRecDepth 4000 in
/-- L2-REN-2, in the tables of P4: tile 0x41 in the corner. -/
theorem test_render_graphicsI :
    let s : State := { withRegs #v[0, 0xC0, 5, 0x80, 1, 0, 0, 0x04] with vram := [(0x0A08, 0x18), (0x1400, 0x41), (0x2008, 0xF4)] }
    let t := s.renderLine 0
    px t 0 2 = some ⟨84, 85, 237⟩ ∧ px t 0 3 = some ⟨255, 255, 255⟩ ∧ px t 0 4 = some ⟨255, 255, 255⟩ ∧
      px t 0 5 = some ⟨84, 85, 237⟩ ∧ px t 0 255 = some ⟨84, 85, 237⟩ ∧ px t 1 3 = some ⟨0, 0, 0⟩ := by decide

set_option maxRecDepth 4000 in
/-- P3: 0xFC in the first cell shows x = 8..13. -/
theorem test_render_text :
    let s : State := { withRegs #v[0, 0xD0, 0, 0, 1, 0, 0, 0xF4] with vram := [(0x0000, 0x01), (0x0808, 0xFC)] }
    let t := s.renderLine 0
    px t 0 7 = some ⟨84, 85, 237⟩ ∧ px t 0 8 = some ⟨255, 255, 255⟩ ∧ px t 0 13 = some ⟨255, 255, 255⟩ ∧
      px t 0 14 = some ⟨84, 85, 237⟩ ∧ px t 0 248 = some ⟨84, 85, 237⟩ := by decide

set_option maxRecDepth 4000 in
/-- P5: line 64, name 5 in the middle third. -/
theorem test_render_graphicsII :
    let s : State :=
      { withRegs #v[0x02, 0xC0, 0x0E, 0xFF, 0x03, 0, 0, 0x0E] with vram := [(0x0828, 0xF0), (0x2828, 0x6D), (0x3900, 0x05)] }
    let t := s.renderLine 64
    px t 64 3 = some ⟨212, 82, 77⟩ ∧ px t 64 4 = some ⟨201, 91, 186⟩ ∧ px t 64 8 = some ⟨204, 204, 204⟩ := by decide

/-- L2-G2-1 to L2-G2-7: v = 65, name 0x05. -/
theorem test_graphicsII_addresses :
    g2Offset 65 5 = 0x0829 ∧
    (withRegs #v[0, 0, 0, 0xFF, 0x03, 0, 0, 0]).g2PatternAddr 0x0829 = 0x0829 ∧
    (withRegs #v[0, 0, 0, 0xFF, 0x00, 0, 0, 0]).g2PatternAddr 0x0829 = 0x0029 ∧
    (withRegs #v[0, 0, 0, 0xFF, 0x04, 0, 0, 0]).g2PatternAddr 0x0829 = 0x2029 ∧
    (withRegs #v[0, 0, 0, 0xFF, 0x07, 0, 0, 0]).g2PatternAddr 0x0829 = 0x2829 ∧
    (withRegs #v[0, 0, 0, 0xFF, 0x03, 0, 0, 0]).g2ColorAddr 0x0829 = 0x2829 ∧
    (withRegs #v[0, 0, 0, 0x80, 0x03, 0, 0, 0]).g2ColorAddr 0x0829 = 0x2029 ∧
    (withRegs #v[0, 0, 0, 0x9F, 0x03, 0, 0, 0]).g2ColorAddr 0x0829 = 0x2029 ∧
    (withRegs #v[0, 0, 0, 0x7F, 0x03, 0, 0, 0]).g2ColorAddr 0x0829 = 0x0829 := by decide

/-- L2-REN-4 and L2-REN-9: the last addresses. -/
theorem test_table_addresses :
    let s := withRegs #v[0, 0, 0xFF, 0xFF, 0xFF, 0, 0, 0]
    s.gridNameAddr 191 31 = 0x3EFF ∧ s.textNameAddr 191 39 = 0x3FBF ∧ s.patternAddr 191 255 = 0x3FFF ∧
      s.colorAddr 255 = 0x3FDF := by decide

/-- L2-REG-1 to L2-REG-8c: derived fields. -/
theorem test_derived_fields :
    (withRegs #v[0x00, 0x10, 0, 0, 0, 0, 0, 0]).modeIndex = 1 ∧ (withRegs #v[0x02, 0x00, 0, 0, 0, 0, 0, 0]).modeIndex = 2 ∧
    (withRegs #v[0x02, 0x10, 0, 0, 0, 0, 0, 0]).modeIndex = 3 ∧ (withRegs #v[0x00, 0x08, 0, 0, 0, 0, 0, 0]).modeIndex = 4 ∧
    (withRegs #v[0xFD, 0xE7, 0, 0, 0, 0, 0, 0]).modeIndex = 0 ∧
    (withRegs #v[0, 0, 0x15, 0x01, 0x09, 0, 0, 0]).nameBase = 0x1400 ∧
    (withRegs #v[0, 0, 0x15, 0x01, 0x09, 0, 0, 0]).colorBase = 0x0040 ∧
    (withRegs #v[0, 0, 0x15, 0x01, 0x09, 0, 0, 0]).patternBase = 0x0800 ∧
    (withRegs #v[0, 0, 0, 0, 0, 0, 0, 0xF4]).textColor = 15 ∧ (withRegs #v[0, 0, 0, 0, 0, 0, 0, 0xF4]).backdropColor = 4 := by
  decide

/-- L2-REN-11, L2-REN-12, L2-G2-8 and L2-REN-1c: lines that are all backdrop. -/
theorem test_render_backdrop_lines :
    px ((withRegs #v[0, 0x48, 0, 0, 0, 0, 0, 0x02]).renderLine 0) 0 255 = some ⟨33, 200, 66⟩ ∧
    px ((withRegs #v[0, 0x10, 0, 0, 0, 0, 0, 0x0F]).renderLine 191) 191 0 = some ⟨255, 255, 255⟩ ∧
    px (({ withRegs #v[0x02, 0xC0, 0, 0, 0, 0, 0, 0x0E] with params := { Params.default with gfx2Model := .backdropStub } } :
      State).renderLine 0) 0 7 = some ⟨204, 204, 204⟩ ∧
    px (({ State.reset with params := { Params.default with transparentRgb := ⟨1, 2, 3⟩ } } : State).renderLine 5) 5 9 =
      some ⟨1, 2, 3⟩ := by decide

/-! ### Witnesses: for each obligation with hypotheses, a concrete state and operands that meet all of them -/

/-- A live device in the middle of things: VRAM and registers written, the second phase, a visible line. -/
def busy : State :=
  { State.reset with
    vram := [(0x0000, 0x12), (0x3FFF, 0x34)]
    reg := #v[0x02, 0xE0, 0x05, 0x80, 0x01, 0x33, 0x44, 0xF4]
    addr := 0x3FFF
    rbuf := 0x99
    second := true
    cmd := 0x8120
    v := 191
    irq := true }

theorem witness_EncodeThenDecodeIsIdentity :
    (Instr.wcReg3 7 7).wellFormed true = true ∧ (Instr.wcFirst 0xFF).wellFormed false = true ∧
      Instr.spf.wellFormed true = true := by decide

theorem witness_DecodeThenEncodeKeepsWord :
    decode true 0x2FF = .ok (.wcReg3 7 7) ∧ TransactionWord.kind 0x2FF = 0x2 ∧ decode false 0x3FF = .ok (.wd 0xFF) ∧
      TransactionWord.kind 0x3FF = 0x3 ∧ decode false 0x6FF = .ok .tick ∧ TransactionWord.kind 0x6FF ≠ 0x2 ∧
      TransactionWord.kind 0x6FF ≠ 0x3 := by decide

/-- Each code at both ends of its range, and a word of another kind. -/
theorem witness_ControlByteIsReadByPhaseAndCode :
    (0x00 : Byte).toNat / 64 = 0 ∧ (0x3F : Byte).toNat / 64 = 0 ∧ (0x40 : Byte).toNat / 64 = 1 ∧ (0x7F : Byte).toNat / 64 = 1 ∧
      (0x80 : Byte).toNat / 64 = 2 ∧ (0xBF : Byte).toNat / 64 = 2 ∧ (0xC0 : Byte).toNat / 64 = 3 ∧
      (0xFF : Byte).toNat / 64 = 3 ∧ TransactionWord.kind 0x35A ≠ 0x2 := by decide

theorem witness_StepRunsDecodedTransaction :
    ({ busy with pending := [0x2FF, 0x600] } : State).pending = 0x2FF :: [0x600] ∧
      decode ({ busy with pending := [0x2FF, 0x600] } : State).second 0x2FF = .ok (.wcReg3 7 7) := by decide

theorem witness_StepWithoutTransactionChangesNothing : busy.pending = [] := by decide

/-- Both sides of the boundary between kinds 0xB and 0xC. -/
theorem witness_UndefinedKindsAreRefused :
    ({ busy with pending := [0xC00] } : State).pending = 0xC00 :: [] ∧ 12 ≤ (TransactionWord.kind 0xC00).toNat ∧
      ({ busy with pending := [0xBFF] } : State).pending = 0xBFF :: [] ∧ ¬ 12 ≤ (TransactionWord.kind 0xBFF).toNat := by decide

theorem witness_InitCreatesTheDevice : ({ busy with life := .absent } : State).life = .absent := by decide

/-- The device is live: the only hypothesis on the state of ShutdownOnlyEndsTheLifetime, QueriesReturnTheConstants,
FramebufferQueryReturnsTheFrame, FirstControlByteSetsTheLowHalves, ReadSetupPrefetchesAndIncrements,
WriteSetupSetsTheLatchOnly, ReadDataReturnsTheBuffer, ReadStatusClearsVblankAndLatchFlag, RegisterWriteStoresTheFirstByte and
ConsumeInterruptReturnsAndClears. -/
theorem witness_live_device : busy.life = .live ∧ State.reset.life = .live := by decide

theorem witness_OutsideTheLifetimeIsRefused :
    ({ busy with life := .shut } : State).life = .shut ∧ ({ busy with life := .absent } : State).life = .absent ∧
      Instr.tick ≠ Instr.init ∧ busy.life = .live := by decide

theorem witness_LiveDeviceCompletesEveryTransaction : busy.life = .live ∧ Instr.wcReg 7 1 ≠ Instr.init := by decide

/-- The latch at the top of VRAM, and another address. -/
theorem witness_WriteDataStoresAtTheLatch :
    busy.life = .live ∧ Memory.wf busy.vram = true ∧ busy.addr = 0x3FFF ∧ (0x0000 : VramAddr) ≠ busy.addr := by decide

theorem witness_ReadSequenceReturnsSuccessiveBytes :
    ∃ s : State, s.life = .live ∧ s.second = false ∧ (∀ w ∈ ([0x400, 0x500, 0x600, 0xB00] : List TransactionWord), readOrQuiet w = true) ∧
      s.pending = (ProgramItem.setr 0x3FFF).expand ++ [0x400, 0x500, 0x600, 0xB00] ++ encode .rd :: [0x600] :=
  ⟨{ busy with second := false, pending := (ProgramItem.setr 0x3FFF).expand ++ [0x400, 0x500, 0x600, 0xB00] ++ encode .rd :: [0x600] },
    by decide, by decide, by decide, rfl⟩

/-- The first and the last read. -/
theorem witness_VramDumpReturnsEveryByteInOrder :
    (∃ s : State, s.life = .live ∧ s.second = false ∧
      s.pending = (ProgramItem.setr 0).expand ++ List.replicate 16384 (encode .rd) ++ [0x600]) ∧ 0 < 16384 ∧ 16383 < 16384 :=
  ⟨⟨{ busy with second := false, pending := (ProgramItem.setr 0).expand ++ List.replicate 16384 (encode .rd) ++ [0x600] },
    by rfl, by rfl, by rfl⟩, by decide, by decide⟩

theorem witness_WrittenByteIsReadBack :
    ∃ s : State, s.life = .live ∧ s.second = false ∧ Memory.wf s.vram = true ∧
      s.pending = (ProgramItem.setw 0x3FFF).expand ++ [encode (.wd 0x5A)] ++ (ProgramItem.setr 0x3FFF).expand ++
        [encode .rd, encode .rd] ++ [0x600] :=
  ⟨{ busy with
      second := false
      pending := (ProgramItem.setw 0x3FFF).expand ++ [encode (.wd 0x5A)] ++ (ProgramItem.setr 0x3FFF).expand ++
        [encode .rd, encode .rd] ++ [0x600] }, by rfl, by rfl, by decide, by rfl⟩

theorem witness_FullMemoryRoundTrip :
    (∃ s : State, s.life = .live ∧ s.second = false ∧ Memory.wf s.vram = true ∧
      s.pending = (ProgramItem.setw 0).expand ++ List.replicate 16384 (encode (.wd 0xB7)) ++ (ProgramItem.setr 0).expand ++
        List.replicate 16384 (encode .rd) ++ [0x600]) ∧ 0 < 16384 ∧ 16383 < 16384 :=
  ⟨⟨{ busy with
      second := false
      pending := (ProgramItem.setw 0).expand ++ List.replicate 16384 (encode (.wd 0xB7)) ++ (ProgramItem.setr 0).expand ++
        List.replicate 16384 (encode .rd) ++ [0x600] }, by rfl, by rfl, by decide, by rfl⟩, by decide, by decide⟩

/-- Each of the three transactions in the middle, and the latch's wrap: 0xFF in the low byte, all ones above. -/
theorem witness_InterruptedPairIsAbandoned :
    ∀ x ∈ [Instr.rd, Instr.rs, Instr.wd 0x11], ∃ s : State, s.life = .live ∧ s.second = false ∧
      (x = .rd ∨ x = .rs ∨ ∃ d, x = .wd d) ∧ s.addr = 0x3FFF ∧
      s.pending = transactionWord 0x2 0xFF :: encode x :: transactionWord 0x2 0x81 :: [0x600] := by
  intro x hx
  refine ⟨{ busy with second := false, pending := transactionWord 0x2 0xFF :: encode x :: transactionWord 0x2 0x81 :: [0x600] },
    rfl, rfl, ?_, rfl, rfl⟩
  simp only [List.mem_cons, List.not_mem_nil, or_false] at hx
  rcases hx with h | h | h
  · exact .inl h
  · exact .inr (.inl h)
  · exact .inr (.inr ⟨0x11, h⟩)

theorem witness_SetregWritesTheRegister :
    ∃ s : State, s.life = .live ∧ s.second = false ∧ s.pending = (ProgramItem.setreg 1 0xE0).expand ++ [0x600] :=
  ⟨{ busy with second := false, pending := (ProgramItem.setreg 1 0xE0).expand ++ [0x600] }, by rfl, by rfl, by rfl⟩

theorem witness_SetregTwiceIsSetregOnce : State.reset.life = .live ∧ State.reset.second = false := by decide

/-- A register left alone by a write to another one, and by a transaction that is no register write. -/
theorem witness_OnlyRegisterWritesChangeRegisters :
    Instr.wcReg 0 1 ≠ .init ∧ (∃ t, exec (.wcReg 0 1) busy = .next t) ∧ (∀ x, Instr.wcReg 0 1 ≠ .wcReg x 7 ∧ Instr.wcReg 0 1 ≠ .wcReg3 x 7) ∧
      Instr.rd ≠ .init ∧ (∃ t, exec .rd busy = .next t) ∧ ∀ x, Instr.rd ≠ .wcReg x 0 ∧ Instr.rd ≠ .wcReg3 x 0 :=
  ⟨by decide, ⟨_, rfl⟩, by decide, by decide, ⟨_, rfl⟩, by decide⟩

/-- All bits without effect turned over. -/
theorem witness_InertRegisterBitsDoNotShow :
    let s' : State := { busy with reg := #v[0xFF, 0x67, 0xF5, 0x80, 0xF9, 0xCC, 0xBB, 0xF4] }
    (busy.readReg 0).getLsbD 1 = (s'.readReg 0).getLsbD 1 ∧ (busy.readReg 1).extractLsb' 3 4 = (s'.readReg 1).extractLsb' 3 4 ∧
      (busy.readReg 2).extractLsb' 0 4 = (s'.readReg 2).extractLsb' 0 4 ∧ busy.readReg 3 = s'.readReg 3 ∧
      (busy.readReg 4).extractLsb' 0 3 = (s'.readReg 4).extractLsb' 0 3 ∧ busy.readReg 7 = s'.readReg 7 := by decide

theorem witness_InertRegisterBitsDoNotShow_completes : ∃ t, exec .tick busy = .next t := ⟨_, rfl⟩

/-- The last visible line. -/
theorem witness_VisibleTickRendersTheClosedForm : busy.v < frameHeight ∧ busy.v = 191 ∧ busy.life = .live := by decide

/-- The last cell and its last pixel, the first and the last visible line. -/
theorem witness_GraphicsITickDrawsTheTiles :
    let s : State := { withRegs #v[0x00, 0xC0, 0, 0, 0, 0, 0, 0] with v := 191 }
    s.v < frameHeight ∧ s.life = .live ∧ (s.readReg 1).getLsbD 6 = true ∧ (s.readReg 1).getLsbD 3 = false ∧
      (s.readReg 0).getLsbD 1 = false ∧ (s.readReg 1).getLsbD 4 = false ∧ 255 < lineWidth ∧ 7 < 8 ∧ 255 = 31 * 8 + 7 := by decide

/-- Both kinds of pixel: a set one (0xFF) and a clear one (0x00). -/
theorem witness_pixelSet : pixelSet 0xFF 7 ∧ ¬ pixelSet 0x00 0 := by decide

/-- The last cell and its last pixel, and the inner edges of the two margins. -/
theorem witness_TextTickDrawsTheGlyphs :
    let s : State := { withRegs #v[0x00, 0xD0, 0, 0, 0, 0, 0, 0] with v := 191 }
    s.v < frameHeight ∧ s.life = .live ∧ (s.readReg 1).getLsbD 6 = true ∧ (s.readReg 1).getLsbD 3 = false ∧
      (s.readReg 0).getLsbD 1 = false ∧ (s.readReg 1).getLsbD 4 = true ∧ 39 < 40 ∧ 5 < 6 ∧ 247 < lineWidth ∧ 247 = 39 * 6 + 8 + 5 ∧
      (7 < 8 ∨ 248 ≤ 7) ∧ (248 < 8 ∨ 248 ≤ 248) ∧ 248 < lineWidth := by decide

/-- The last cell and its last pixel, with each value of GFX2_MODEL. -/
theorem witness_GraphicsIITickDrawsTheTiles :
    let s : State := { withRegs #v[0x02, 0xC0, 0, 0, 0, 0, 0, 0] with v := 191 }
    let s' : State := { s with params := { Params.default with gfx2Model := .backdropStub } }
    s.v < frameHeight ∧ s.life = .live ∧ (s.readReg 1).getLsbD 6 = true ∧ (s.readReg 1).getLsbD 3 = false ∧
      (s.readReg 0).getLsbD 1 = true ∧ (s.readReg 1).getLsbD 4 = false ∧ s.params.gfx2Model = .datasheet ∧
      s'.v < frameHeight ∧ s'.life = .live ∧ (s'.readReg 1).getLsbD 6 = true ∧ (s'.readReg 1).getLsbD 3 = false ∧
      (s'.readReg 0).getLsbD 1 = true ∧ (s'.readReg 1).getLsbD 4 = false ∧ s'.params.gfx2Model = .backdropStub ∧
      255 < lineWidth ∧ 7 < 8 ∧ 255 = 31 * 8 + 7 := by decide

theorem witness_DisabledDisplayShowsTheBackdrop :
    let s : State := { withRegs #v[0x02, 0xBF, 0, 0, 0, 0, 0, 0] with v := 191 }
    s.v < frameHeight ∧ s.life = .live ∧ (s.readReg 1).getLsbD 6 = false := by decide

/-- The first and the last unimplemented index, with the display enabled. -/
theorem witness_UnimplementedModesShowTheBackdrop :
    let s : State := { withRegs #v[0x02, 0x50, 0, 0, 0, 0, 0, 0] with v := 191 }
    let s' := withRegs #v[0x02, 0x58, 0, 0, 0, 0, 0, 0]
    s.v < frameHeight ∧ s.life = .live ∧ 3 ≤ s.modeIndex ∧ s.modeIndex = 3 ∧ s'.v < frameHeight ∧ s'.life = .live ∧
      3 ≤ s'.modeIndex ∧ s'.modeIndex = 7 := by decide

/-- The last line, name and columns. -/
theorem witness_RendererAddressesStayInVram : 191 < 192 ∧ 255 < 256 ∧ 31 < 32 ∧ 39 < 40 := by decide

/-- Two states that differ in everything a render does not read. -/
theorem witness_RenderReadsOnlyVramAndRegisters :
    let s₂ : State := { busy with addr := 0, rbuf := 0, second := false, cmd := 0, v := 3, vblank := false, irq := false, fb := Frame.black }
    191 < frameHeight ∧ (0 : Nat) ≠ 191 ∧ (∀ a, busy.readVram a = s₂.readVram a) ∧ (∀ n, busy.readReg n = s₂.readReg n) ∧
      busy.params.transparentRgb = s₂.params.transparentRgb ∧ busy.params.gfx2Model = s₂.params.gfx2Model :=
  ⟨by decide, by decide, fun _ => rfl, fun _ => rfl, rfl, rfl⟩

theorem witness_VisibleFrameIsTheClosedForm :
    ∃ s : State, s.life = .live ∧ s.v = 0 ∧ s.pending = List.replicate 192 (encode .tick) ++ [0x700] :=
  ⟨{ busy with v := 0, pending := List.replicate 192 (encode .tick) ++ [0x700] }, by rfl, by rfl, by rfl⟩

theorem witness_BoundaryTickSetsVblankAndArms :
    ({ busy with v := 192 } : State).life = .live ∧ ({ busy with v := 192 } : State).v = 192 := by decide

/-- The first and the last blank line. -/
theorem witness_BlankTickOnlyCounts :
    ({ busy with v := 193 } : State).life = .live ∧ 192 < ({ busy with v := 193 } : State).v ∧
      192 < ({ busy with v := 261 } : State).v := by decide

/-- The last line, where the counter wraps. -/
theorem witness_CounterAdvancesModulo262 :
    ∃ s : State, s.life = .live ∧ s.v ≤ 261 ∧ s.v = 261 ∧ s.pending = ProgramItem.frame.expand ++ [0x700] :=
  ⟨{ busy with v := 261, pending := ProgramItem.frame.expand ++ [0x700] }, by rfl, by decide, by rfl, by rfl⟩

theorem witness_VblankIsSetOncePerFrame :
    ∃ s : State, s.life = .live ∧ s.v = 0 ∧ s.vblank = false ∧ s.pending = ProgramItem.frame.expand ++ [0x700] :=
  ⟨{ busy with v := 0, vblank := false, pending := ProgramItem.frame.expand ++ [0x700] }, by rfl, by rfl, by rfl, by rfl⟩

theorem witness_InterruptStateMachineFollowsTheTable : ∃ t, exec (.wcReg 0 1) busy = .next t := ⟨_, rfl⟩

/-- The two ways: the boundary tick with IE, and an R1 write while vblank is latched. -/
theorem witness_InterruptRisesOnlyTwoWays :
    (completes .tick { busy with v := 192, irq := false } = true ∧ ({ busy with v := 192, irq := false } : State).irq = false ∧
      (after .tick { busy with v := 192, irq := false }).irq = true) ∧
    completes (.wcReg 0 1) (secondPhase 0x20) = true ∧ (secondPhase 0x20).irq = false ∧
      (after (.wcReg 0 1) (secondPhase 0x20)).irq = true := by decide

/-- Each clause, with both values of STATUS_CLEARS_IRQ. -/
theorem witness_AcknowledgedInterruptStaysDown :
    (∃ s : State, s.life = .live ∧ s.pending = [encode .ci, encode .rs] ++ (ProgramItem.setreg 1 0x20).expand ++ [0x600]) ∧
    (∃ s : State, s.life = .live ∧ s.params.statusClearsIrq = true) ∧ ∃ s : State, s.life = .live ∧ s.params.statusClearsIrq = false :=
  ⟨⟨{ busy with pending := [encode .ci, encode .rs] ++ (ProgramItem.setreg 1 0x20).expand ++ [0x600] }, by rfl, by rfl⟩,
    ⟨{ busy with params := { Params.default with statusClearsIrq := true } }, by rfl, by rfl⟩, ⟨busy, by rfl, by rfl⟩⟩

/-- A byte beside the one WD stores, and a transaction that is no WD. -/
theorem witness_OnlyWriteDataChangesVram :
    Instr.wd 0x11 ≠ .init ∧ (∃ t, exec (.wd 0x11) busy = .next t) ∧ (0x3FFE : VramAddr) ≠ busy.addr ∧
      Instr.rd ≠ .init ∧ (∃ t, exec .rd busy = .next t) ∧ ¬ ∃ b, Instr.rd = .wd b :=
  ⟨by decide, ⟨_, rfl⟩, by decide, by decide, ⟨_, rfl⟩, by decide⟩

/-- A row beside the one a tick renders. -/
theorem witness_OnlyVisibleTicksChangeTheFramebuffer :
    0 < frameHeight ∧ Instr.tick ≠ .init ∧ (∃ t, exec .tick busy = .next t) ∧ 0 ≠ busy.v :=
  ⟨by decide, by decide, ⟨_, rfl⟩, by decide⟩

/-- TICK moves neither, and WC.WSETUP moves the latch only. -/
theorem witness_LatchAndBufferMoveOnlyByPortAccess :
    Instr.tick ≠ .init ∧ (∃ t, exec .tick busy = .next t) ∧ (∀ b, Instr.tick ≠ .wcFirst b ∧ Instr.tick ≠ .wd b) ∧
      (∀ a, Instr.tick ≠ .wcRsetup a ∧ Instr.tick ≠ .wcWsetup a) ∧ Instr.tick ≠ .rd ∧
      (∃ t, exec (.wcWsetup 0x3F) busy = .next t) ∧ (∀ b, Instr.wcWsetup 0x3F ≠ .wd b) ∧
      (∀ a, Instr.wcWsetup 0x3F ≠ .wcRsetup a) ∧ Instr.wcWsetup 0x3F ≠ .rd :=
  ⟨by decide, ⟨_, rfl⟩, by decide, by decide, by decide, ⟨_, rfl⟩, by decide, by decide, by decide⟩

theorem witness_LatchFlagFollowsThePort : (∃ t, exec (.wcFirst 0x00) busy = .next t) ∧ ∃ t, exec .ci busy = .next t :=
  ⟨⟨_, rfl⟩, ⟨_, rfl⟩⟩

theorem witness_NoStepChangesTheParameters : ∃ t, step { busy with pending := [0x600] } = .next t := ⟨_, rfl⟩

theorem witness_StepKeepsTheInvariant :
    Inv { busy with pending := [0x35A] } ∧ ∃ t, step { busy with pending := [0x35A] } = .next t :=
  ⟨⟨by decide, by decide, by decide, rfl⟩, ⟨_, rfl⟩⟩

theorem witness_BootSequenceForgetsThePortState :
    ∃ s : State, s.life = .live ∧ s.pending = ProgramItem.sync.expand ++ (ProgramItem.setr 0x3FFF).expand ++ [0x400] :=
  ⟨{ busy with pending := ProgramItem.sync.expand ++ (ProgramItem.setr 0x3FFF).expand ++ [0x400] }, by rfl, by rfl⟩

end Sys2Proof.Tests
end

section
/-! SUPPORT. What a transaction and a step can do at all (00_scope.md R8, R10, R13): the factoring of `exec` through the
lifecycle check, the inversion of `step`, and the obligations O6, O12 and O57. -/

namespace Sys2Proof.Safety

open Sys2Proof.Machine

/-! ### Transactions -/

/-- INIT answers a next state only where no device exists, and then the state of R38. -/
theorem execInit_next_iff {s t : State} :
    execInit s = .next t ↔ s.life = .absent ∧ State.afterInit s.params s.pending = t := by
  unfold execInit
  cases s.life <;> simp

/-- Every transaction but INIT is a total update of the state behind the lifecycle check: the check is the only way it can
answer anything but a next state (R213, R230), and the update leaves the parameters (R10). -/
theorem exec_eq_whenLive {i : Instr} (hi : i ≠ .init) :
    ∃ f : State → State, (∀ s, exec i s = s.whenLive fun s => .next (f s)) ∧ ∀ s, (f s).params = s.params := by
  cases i with
  | init => exact absurd rfl hi
  | shutdown => exact ⟨_, fun _ => rfl, fun _ => rfl⟩
  | wcFirst b => exact ⟨_, fun _ => rfl, fun _ => rfl⟩
  | wcRsetup a => exact ⟨_, fun _ => rfl, fun _ => rfl⟩
  | wcWsetup a => exact ⟨_, fun _ => rfl, fun _ => rfl⟩
  | wcReg x r => exact ⟨_, fun _ => rfl, fun s => by simp [State.registerCommand]⟩
  | wcReg3 x r => exact ⟨_, fun _ => rfl, fun s => by simp [State.registerCommand]⟩
  | wd b => exact ⟨_, fun _ => rfl, fun _ => rfl⟩
  | rd => exact ⟨_, fun _ => rfl, fun _ => rfl⟩
  | rs => exact ⟨_, fun _ => rfl, fun _ => rfl⟩
  | tick => exact ⟨_, fun _ => rfl, fun s => by dsimp only; split <;> split <;> simp⟩
  | ci => exact ⟨_, fun _ => rfl, fun _ => rfl⟩
  | fb => exact ⟨_, fun _ => rfl, fun _ => rfl⟩
  | width => exact ⟨_, fun _ => rfl, fun _ => rfl⟩
  | height => exact ⟨_, fun _ => rfl, fun _ => rfl⟩
  | spf => exact ⟨_, fun _ => rfl, fun _ => rfl⟩

/-- A completed transaction leaves the parameters: INIT hands them on, every other one does not touch them. -/
theorem params_of_exec_next {i : Instr} {s t : State} (h : exec i s = .next t) : t.params = s.params := by
  by_cases hi : i = .init
  · subst hi
    obtain ⟨-, rfl⟩ := execInit_next_iff.mp h
    rfl
  · obtain ⟨f, hf, hparams⟩ := exec_eq_whenLive hi
    rw [hf, State.whenLive_next_iff] at h
    obtain ⟨-, hnext⟩ := h
    cases hnext
    exact hparams s

/-! ### Steps -/

theorem step_of_pending_nil {s : State} (h : s.pending = []) : step s = .next s := by
  simp only [step, h]

/-- A step that answers a next state was idle, or it completed the transaction the oldest pending word decodes to. -/
theorem step_next_cases {s t : State} (h : step s = .next t) :
    (s.pending = [] ∧ t = s) ∨
    ∃ w rest i, s.pending = w :: rest ∧ decode s.second w = .ok i ∧ exec i { s with pending := rest } = .next t := by
  cases hp : s.pending with
  | nil =>
    rw [step_of_pending_nil hp] at h
    cases h
    exact .inl ⟨rfl, rfl⟩
  | cons w rest =>
    cases hd : decode s.second w with
    | ok i =>
      simp only [step, hp, hd] at h
      exact .inr ⟨w, rest, i, rfl, hd, h⟩
    | error e => simp [step, hp, hd] at h

/-! ### The obligations -/

/-- Settles O12: past the lifecycle check, which a live device passes, a transaction is a total update. -/
theorem liveDeviceCompletesEveryTransaction : Obligations.LiveDeviceCompletesEveryTransaction := by
  intro i s hlive hi
  obtain ⟨f, hf, -⟩ := exec_eq_whenLive hi
  exact ⟨f s, by rw [hf, State.whenLive_of_live hlive]⟩

/-- Settles O57: an idle step changes nothing, and any other one completes a transaction. -/
theorem noStepChangesTheParameters : Obligations.NoStepChangesTheParameters := by
  intro s t h
  obtain ⟨-, rfl⟩ | ⟨w, rest, i, -, -, hexec⟩ := step_next_cases h
  · rfl
  · rw [params_of_exec_next hexec]

/-- Settles O6: `step` has an arm of its own for an empty list of pending words. -/
theorem stepWithoutTransactionChangesNothing : Obligations.StepWithoutTransactionChangesNothing := by
  intro s h
  exact step_of_pending_nil h

end Sys2Proof.Safety
end

section
/-! SUPPORT. The fields of the state after a transaction (10_state.md): the reset values of R38, what each field is after
every other transaction, and the obligations O8, O9, O29, O53 to O56, O58 and O59. -/

namespace Sys2Proof.Machine

open Sys2Proof.Config

/-! ### The reset values (R38) -/

@[simp] theorem Frame.getElem_black (y : Nat) (hy : y < frameHeight) : Frame.black[y] = Line.black := by
  simp [Frame.black]

@[simp] theorem State.afterInit_readReg (params : Params) (pending : List TransactionWord) (n : BitVec 3) :
    (State.afterInit params pending).readReg n = 0x00 := by
  simp [State.readReg, State.afterInit]

end Sys2Proof.Machine

namespace Sys2Proof.Safety

open Sys2Proof.Machine Sys2Proof.Config

/-! ### The fields after a transaction -/

/-- VRAM after `i`: WD stores at the latch (R23, R104). -/
@[simp] def vramAfter (i : Instr) (s : State) : Memory :=
  match i with
  | .wd b => (s.writeVram s.addr b).vram
  | _ => s.vram

/-- The registers after `i`: a register write stores the command word's low byte (R21, R130). -/
@[simp] def regAfter (i : Instr) (s : State) : Vector Byte 8 :=
  match i with
  | .wcReg _ r => (s.writeReg r (s.cmd.extractLsb' 0 8)).reg
  | .wcReg3 _ r => (s.writeReg r (s.cmd.extractLsb' 0 8)).reg
  | _ => s.reg

/-- The address latch after `i` (R24, R100 to R102, R104, R107). -/
@[simp] def addrAfter (i : Instr) (s : State) : VramAddr :=
  match i with
  | .wcFirst b => (s.latchFirst b).addr
  | .wcRsetup a => commandAddress (s.latchSecond (setupByte 0b00 a)).cmd + 1
  | .wcWsetup a => commandAddress (s.latchSecond (setupByte 0b01 a)).cmd
  | .wd _ => s.addr + 1
  | .rd => s.addr + 1
  | _ => s.addr

/-- The read buffer after `i` (R25, R101, R104, R107). -/
@[simp] def rbufAfter (i : Instr) (s : State) : Byte :=
  match i with
  | .wcRsetup a => s.readVram (commandAddress (s.latchSecond (setupByte 0b00 a)).cmd)
  | .wd b => b
  | .rd => s.readVram s.addr
  | _ => s.rbuf

/-- The control-latch flag after `i`: the port transactions write it (R26). -/
@[simp] def secondAfter (i : Instr) (s : State) : Bool :=
  match i with
  | .wcFirst _ => true
  | .wcRsetup _ => false
  | .wcWsetup _ => false
  | .wcReg _ _ => false
  | .wcReg3 _ _ => false
  | .wd _ => false
  | .rd => false
  | .rs => false
  | _ => s.second

/-- The scanline counter after `i` (R28, R193). -/
@[simp] def lineAfter (i : Instr) (s : State) : Nat :=
  match i with
  | .tick => (s.v + 1) % scanlines
  | _ => s.v

/-- The framebuffer after `i`: a visible tick renders (R31, R192). -/
@[simp] def fbAfter (i : Instr) (s : State) : Frame :=
  match i with
  | .tick => if s.v < frameHeight then (s.renderLine s.v).fb else s.fb
  | _ => s.fb

/-- The line buffer after `i`: a render leaves it black (R32, R180). -/
@[simp] def lbufAfter (i : Instr) (s : State) : Line :=
  match i with
  | .tick => if s.v < frameHeight then Line.black else s.lbuf
  | _ => s.lbuf

/-- The fields of `t` are those after the transaction `i`, which is not INIT, on `s`. -/
structure FieldsAfter (i : Instr) (s t : State) : Prop where
  vram : t.vram = vramAfter i s
  reg : t.reg = regAfter i s
  addr : t.addr = addrAfter i s
  rbuf : t.rbuf = rbufAfter i s
  second : t.second = secondAfter i s
  v : t.v = lineAfter i s
  fb : t.fb = fbAfter i s
  lbuf : t.lbuf = lbufAfter i s

/-- A tick renders a visible line, or raises the vertical blank, or does neither, and then counts (R190 to R193). -/
theorem fieldsAfter_tick {s u : State}
    (h : (s.v < frameHeight ∧ u = s.renderLine s.v) ∨ (¬ s.v < frameHeight ∧ (u = s.enterVblank ∨ u = s))) :
    FieldsAfter .tick s { u.nextLine with result := .nothing } := by
  obtain ⟨hv, rfl⟩ | ⟨hv, rfl | rfl⟩ := h
  · constructor <;> simp [hv]
  · constructor <;> simp [hv]
  · constructor <;> simp [hv]

/-- The update behind the lifecycle check, field by field: the one case split over the transactions. -/
theorem exec_eq_whenLive_fieldsAfter {i : Instr} (hi : i ≠ .init) :
    ∃ f : State → State, (∀ s, exec i s = s.whenLive fun s => .next (f s)) ∧ ∀ s, FieldsAfter i s (f s) := by
  cases i with
  | init => exact absurd rfl hi
  | tick =>
    refine ⟨_, fun _ => rfl, fun s => fieldsAfter_tick ?_⟩
    by_cases hv : s.v < frameHeight
    · have hb : s.v ≠ vblankLine := Nat.ne_of_lt hv
      simp [hv, hb]
    · by_cases hb : s.v = vblankLine
      · simp [hb]
      · simp [hv, hb]
  | wcReg x r =>
    refine ⟨_, fun _ => rfl, fun s => ?_⟩
    rw [State.registerCommand_eq]
    constructor <;> rfl
  | wcReg3 x r =>
    refine ⟨_, fun _ => rfl, fun s => ?_⟩
    rw [State.registerCommand_eq]
    constructor <;> rfl
  | _ => exact ⟨_, fun _ => rfl, fun _ => by constructor <;> rfl⟩

theorem fieldsAfter_of_exec_next {i : Instr} {s t : State} (hi : i ≠ .init) (h : exec i s = .next t) :
    FieldsAfter i s t := by
  obtain ⟨f, hf, hfields⟩ := exec_eq_whenLive_fieldsAfter hi
  rw [hf, State.whenLive_next_iff] at h
  obtain ⟨-, hnext⟩ := h
  cases hnext
  exact hfields s

/-! ### The invariant -/

/-- INIT establishes the invariant from any canonical VRAM_INIT. -/
theorem inv_afterInit {params : Params} (h : Memory.wf params.vramInit = true) (pending : List TransactionWord) :
    Inv (State.afterInit params pending) :=
  ⟨h, h, Nat.zero_lt_succ _, rfl⟩

/-- Of the transactions, WD alone touches the canonical form of VRAM, and TICK alone the counter and the line buffer. -/
theorem inv_of_fieldsAfter {i : Instr} {s t : State} (hs : Inv s) (hparams : t.params = s.params)
    (hf : FieldsAfter i s t) : Inv t := by
  obtain ⟨hvram, hinit, hv, hlbuf⟩ := hs
  refine ⟨?_, by rw [hparams]; exact hinit, ?_, ?_⟩
  · rw [hf.vram]
    cases i with
    | wd b => exact Memory.wf_write s.addr b hvram
    | _ => exact hvram
  · rw [hf.v]
    cases i with
    | tick => exact Nat.mod_lt _ (by decide)
    | _ => exact hv
  · rw [hf.lbuf]
    cases i with
    | tick => simp [hlbuf]
    | _ => exact hlbuf

theorem inv_of_exec_next {i : Instr} {s t : State} (hs : Inv s) (h : exec i s = .next t) : Inv t := by
  by_cases hi : i = .init
  · subst hi
    obtain ⟨-, rfl⟩ := execInit_next_iff.mp h
    obtain ⟨-, hinit, -, -⟩ := hs
    exact inv_afterInit hinit s.pending
  · exact inv_of_fieldsAfter hs (params_of_exec_next h) (fieldsAfter_of_exec_next hi h)

/-! ### The obligations -/

/-- Settles O59: an idle step changes nothing; taking the oldest word touches no field the invariant reads, and the
transaction it stands for keeps the invariant. -/
theorem stepKeepsTheInvariant : Obligations.StepKeepsTheInvariant := by
  intro s t hs h
  obtain ⟨-, rfl⟩ | ⟨w, rest, i, -, -, hexec⟩ := step_next_cases h
  · exact hs
  · have hs' : Inv { s with pending := rest } := hs
    exact inv_of_exec_next hs' hexec

/-- Settles O29: the two spellings of the register write are the only transactions that write the register file, and
each writes the register it names. -/
theorem onlyRegisterWritesChangeRegisters : Obligations.OnlyRegisterWritesChangeRegisters := by
  intro i s t n hi h hother
  have hf := fieldsAfter_of_exec_next hi h
  cases i with
  | wcReg x r =>
    have hn : n ≠ r := by rintro rfl; exact (hother x).1 rfl
    rw [State.readReg_congr hf.reg, State.readReg_writeReg_other s _ hn]
  | wcReg3 x r =>
    have hn : n ≠ r := by rintro rfl; exact (hother x).2 rfl
    rw [State.readReg_congr hf.reg, State.readReg_writeReg_other s _ hn]
  | _ => exact State.readReg_congr hf.reg n

/-- Settles O53: WD writes VRAM at the latch, and no other transaction writes it. -/
theorem onlyWriteDataChangesVram : Obligations.OnlyWriteDataChangesVram := by
  intro i s t a hi h ha
  have hf := fieldsAfter_of_exec_next hi h
  cases i with
  | wd b =>
    rw [State.readVram_congr hf.vram]
    exact State.readVram_writeVram_other s b (ha ⟨b, rfl⟩)
  | _ => exact State.readVram_congr hf.vram a

/-- Settles O54: TICK writes the framebuffer by rendering line `v`, which leaves every other row, and no other transaction
writes it. -/
theorem onlyVisibleTicksChangeTheFramebuffer : Obligations.OnlyVisibleTicksChangeTheFramebuffer := by
  intro i s t y hy hi h hrow
  have hf := fieldsAfter_of_exec_next hi h
  rw [hf.fb]
  cases i with
  | tick =>
    simp only [fbAfter]
    split
    · exact State.renderLine_row_other s hy (hrow rfl)
    · rfl
  | _ => rfl

/-- Settles O55: the five port transactions that move the latch and the three that load the buffer are the ones the
statement sets aside. -/
theorem latchAndBufferMoveOnlyByPortAccess : Obligations.LatchAndBufferMoveOnlyByPortAccess := by
  intro i s t hi h
  have hf := fieldsAfter_of_exec_next hi h
  constructor
  · intro hbyte hsetup hrd
    rw [hf.addr]
    cases i with
    | wcFirst b => exact absurd rfl (hbyte b).1
    | wd b => exact absurd rfl (hbyte b).2
    | wcRsetup a => exact absurd rfl (hsetup a).1
    | wcWsetup a => exact absurd rfl (hsetup a).2
    | rd => exact absurd rfl hrd
    | _ => rfl
  · intro hwd hsetup hrd
    rw [hf.rbuf]
    cases i with
    | wd b => exact absurd rfl (hwd b)
    | wcRsetup a => exact absurd rfl (hsetup a)
    | rd => exact absurd rfl hrd
    | _ => rfl

/-- Settles O56: INIT leaves the reset value, every other transaction what its row of `secondAfter` says. -/
theorem latchFlagFollowsThePort : Obligations.LatchFlagFollowsThePort := by
  intro i s t h
  cases i with
  | init =>
    obtain ⟨-, rfl⟩ := execInit_next_iff.mp h
    rfl
  | _ => exact (fieldsAfter_of_exec_next (by simp) h).second

/-- Settles O8: INIT where no device exists answers `State.afterInit`, whose fields are the values of R38. -/
theorem initCreatesTheDevice : Obligations.InitCreatesTheDevice := by
  intro s habsent
  refine ⟨State.afterInit s.params s.pending, execInit_next_iff.mpr ⟨habsent, rfl⟩, fun _ => rfl,
    State.afterInit_readReg s.params s.pending, rfl, rfl, rfl, rfl, rfl, rfl, rfl, fun y hy x hx => ?_,
    fun x hx => Line.getElem_black x hx, rfl, rfl, rfl, rfl⟩
  calc (Frame.black[y]'hy)[x]'hx
      = Line.black[x]'hx := by rw [Frame.getElem_black y hy]
    _ = ⟨0, 0, 0⟩ := Line.getElem_black x hx

/-- Settles O9: the reset state is a state after INIT, and the enables and the mode index follow from its registers. -/
theorem resetStateHasTheSpecsValues : Obligations.ResetStateHasTheSpecsValues := by
  have hreg : ∀ n, State.reset.readReg n = 0x00 := State.afterInit_readReg Params.default []
  refine ⟨hreg, rfl, rfl, rfl, rfl, rfl, rfl, rfl, rfl, rfl, fun y hy => Frame.getElem_black y hy, ?_, ?_, ?_⟩
  · simp [State.displayEnable, hreg]
  · simp [State.interruptEnable, hreg]
  · simp [State.modeIndex, State.regNat, hreg]

/-- Settles O58: the default VRAM_INIT, which names no byte, is canonical. -/
theorem resetStateMeetsTheInvariant : Obligations.ResetStateMeetsTheInvariant :=
  inv_afterInit Memory.wf_nil []

end Sys2Proof.Safety
end

section
/-! SUPPORT. Memory (20_memory.md): the step of a decoded transaction (R66), the bounds of the renderer's table addresses
(R68), and the obligations O5 and O42. -/

namespace Sys2Proof.Machine

/-! ### Bounds of masks and disjunctions -/

/-- An address put together from fields is at most their sum, whether or not the fields overlap. -/
theorem or_le_add (a b : Nat) : a ||| b ≤ a + b := by
  induction a using Nat.strongRec generalizing b with
  | ind a ih =>
    obtain rfl | ha := Nat.eq_zero_or_pos a
    · simp
    · have hhalf : (a ||| b) / 2 ≤ a / 2 + b / 2 := by
        rw [Nat.or_div_two]
        exact ih (a / 2) (by omega) (b / 2)
      have hbit : (a ||| b) % 2 = 1 ↔ a % 2 = 1 ∨ b % 2 = 1 := Nat.or_mod_two_eq_one
      omega

/-- A field cut out by a mask and moved up is at most the mask moved up. -/
theorem and_shiftLeft_le (r mask k : Nat) : (r &&& mask) <<< k ≤ mask <<< k := by
  rw [Nat.shiftLeft_eq, Nat.shiftLeft_eq]
  exact Nat.mul_le_mul_right _ Nat.and_le_right

/-! ### The table bases (R141 to R143) -/

theorem State.regNat_lt (s : State) (n : BitVec 3) : s.regNat n < 256 := (s.readReg n).isLt

theorem State.nameBase_le (s : State) : s.nameBase ≤ 0x3C00 := and_shiftLeft_le (s.regNat 2) 0x0F 10

theorem State.patternBase_le (s : State) : s.patternBase ≤ 0x3800 := and_shiftLeft_le (s.regNat 4) 0x07 11

theorem State.colorBase_le (s : State) : s.colorBase ≤ 0x3FC0 := by
  have hreg := s.regNat_lt 3
  rw [State.colorBase, Nat.shiftLeft_eq]
  omega

/-! ### The row of cells of a visible line, and the row of pixels in it -/

theorem cellRow_le {v : Nat} (hv : v < 192) : v >>> 3 ≤ 23 := by
  rw [Nat.shiftRight_eq_div_pow]
  omega

theorem rowInCell_le (v : Nat) : v &&& 7 ≤ 7 := Nat.and_le_right

/-! ### The table addresses (R68) -/

theorem State.gridNameAddr_le (s : State) {v c : Nat} (hv : v < 192) (hc : c < 32) : s.gridNameAddr v c ≤ 0x3EFF := by
  have hbase := s.nameBase_le
  have hrow := cellRow_le hv
  unfold State.gridNameAddr
  omega

theorem State.textNameAddr_le (s : State) {v c : Nat} (hv : v < 192) (hc : c < 40) : s.textNameAddr v c ≤ 0x3FBF := by
  have hbase := s.nameBase_le
  have hrow := cellRow_le hv
  unfold State.textNameAddr
  omega

theorem State.patternAddr_le (s : State) (v : Nat) {name : Nat} (hname : name < 256) :
    s.patternAddr v name ≤ 0x3FFF := by
  have hbase := s.patternBase_le
  have hrow := rowInCell_le v
  unfold State.patternAddr
  omega

theorem State.colorAddr_le (s : State) {name : Nat} (hname : name < 256) : s.colorAddr name ≤ 0x3FDF := by
  have hbase := s.colorBase_le
  rw [State.colorAddr, Nat.shiftRight_eq_div_pow]
  omega

/-- Bank 2, name 255, row 7 is the last offset (R174). -/
theorem g2Offset_le {v name : Nat} (hv : v < 192) (hname : name < 256) : g2Offset v name ≤ 6143 := by
  have hbank : (v >>> 6) <<< 11 ≤ 4096 := by
    rw [Nat.shiftRight_eq_div_pow, Nat.shiftLeft_eq]
    omega
  have htile : name <<< 3 ≤ 2040 := by
    rw [Nat.shiftLeft_eq]
    omega
  have hrow := rowInCell_le v
  calc g2Offset v name
      ≤ ((v >>> 6) <<< 11 ||| name <<< 3) + (v &&& 7) := or_le_add _ _
    _ ≤ (v >>> 6) <<< 11 + name <<< 3 + (v &&& 7) := Nat.add_le_add_right (or_le_add _ _) _
    _ ≤ 6143 := by omega

/-- The form of both Graphics II address maps (R175, R176): a base bit worth at most 0x2000, and a masked offset. -/
theorem base_or_and_le {base off : Nat} (mask : Nat) (hbase : base ≤ 0x2000) (hoff : off ≤ 6143) :
    base ||| (off &&& mask) ≤ 0x37FF :=
  calc base ||| (off &&& mask)
      ≤ base + (off &&& mask) := or_le_add _ _
    _ ≤ 0x2000 + 6143 := Nat.add_le_add hbase (Nat.and_le_left.trans hoff)

theorem State.g2PatternAddr_le (s : State) {off : Nat} (hoff : off ≤ 6143) : s.g2PatternAddr off ≤ 0x37FF :=
  base_or_and_le _ (and_shiftLeft_le (s.regNat 4) 0x04 11) hoff

theorem State.g2ColorAddr_le (s : State) {off : Nat} (hoff : off ≤ 6143) : s.g2ColorAddr off ≤ 0x37FF :=
  base_or_and_le _ (and_shiftLeft_le (s.regNat 3) 0x80 6) hoff

end Sys2Proof.Machine

namespace Sys2Proof.Safety

open Sys2Proof.Machine

/-! ### The step of a decoded transaction (R66, R84) -/

theorem step_of_decode_ok {s : State} {w : TransactionWord} {rest : List TransactionWord} {i : Instr}
    (hp : s.pending = w :: rest) (hd : decode s.second w = .ok i) : step s = exec i { s with pending := rest } := by
  simp only [step, hp, hd]

/-! ### The obligations -/

/-- Settles O42: Graphics I and Text add a bounded offset to a bounded base; Graphics II joins a base bit to an offset of
at most 6143 that the mask register only lowers. -/
theorem rendererAddressesStayInVram : Obligations.RendererAddressesStayInVram := by
  intro s v c name hv hname
  have hoff := g2Offset_le hv hname
  exact ⟨s.gridNameAddr_le hv, s.textNameAddr_le hv, s.patternAddr_le v hname, s.colorAddr_le hname, hoff,
    s.g2PatternAddr_le hoff, s.g2ColorAddr_le hoff⟩

/-- Settles O5: `step` takes the oldest word and runs what it decodes to. -/
theorem stepRunsDecodedTransaction : Obligations.StepRunsDecodedTransaction := by
  intro s w rest i hp hd
  exact step_of_decode_ok hp hd

end Sys2Proof.Safety
end

section
/-! SUPPORT. The decoder and the encoder (30_encoding.md R80 to R88): the fields of a second control byte, the two
directions of the round trip, which words are no transaction, and the obligations O1 to O4 and O7. -/

namespace Sys2Proof

/-! ### The fields of a second control byte (R86, R87) -/

@[simp] theorem commandCode_setupByte (k : BitVec 2) (a : BitVec 6) : (setupByte k a).extractLsb' 6 2 = k :=
  BitVec.extractLsb'_append_eq_left

@[simp] theorem addressBits_setupByte (k : BitVec 2) (a : BitVec 6) : (setupByte k a).extractLsb' 0 6 = a :=
  BitVec.extractLsb'_append_eq_right

@[simp] theorem commandCode_registerByte (k : BitVec 2) (x r : BitVec 3) : (registerByte k x r).extractLsb' 6 2 = k := by
  revert k x r; decide

@[simp] theorem ignoredBits_registerByte (k : BitVec 2) (x r : BitVec 3) : (registerByte k x r).extractLsb' 3 3 = x := by
  revert k x r; decide

@[simp] theorem indexBits_registerByte (k : BitVec 2) (x r : BitVec 3) : (registerByte k x r).extractLsb' 0 3 = r :=
  BitVec.extractLsb'_append_eq_right

/-- A byte is its command code over six address bits. -/
theorem setupByte_fields (b : Byte) : setupByte (b.extractLsb' 6 2) (b.extractLsb' 0 6) = b := by
  revert b; decide

/-- A byte is its command code over the ignored bits over a register index. -/
theorem registerByte_fields (b : Byte) :
    registerByte (b.extractLsb' 6 2) (b.extractLsb' 3 3) (b.extractLsb' 0 3) = b := by
  revert b; decide

/-- The command code in plain arithmetic. -/
theorem commandCode_toNat (b : Byte) : (b.extractLsb' 6 2).toNat = b.toNat / 64 := by
  have := b.isLt
  rw [BitVec.extractLsb'_toNat, Nat.shiftRight_eq_div_pow]
  omega

/-- The ignored bits, with the bits above them cut off, in plain arithmetic. -/
theorem ignoredBits_eq (b : Byte) : b.extractLsb' 3 3 = BitVec.ofNat 3 (b.toNat / 8) := by
  rw [BitVec.extractLsb', Nat.shiftRight_eq_div_pow]

/-! ### Decoding a control byte (R84, R86) -/

@[simp] theorem decodeControl_first (b : Byte) : decodeControl false b = .wcFirst b := rfl

theorem decodeControl_code_zero {b : Byte} (h : b.extractLsb' 6 2 = 0) :
    decodeControl true b = .wcRsetup (b.extractLsb' 0 6) := by simp [decodeControl, h]

theorem decodeControl_code_one {b : Byte} (h : b.extractLsb' 6 2 = 1) :
    decodeControl true b = .wcWsetup (b.extractLsb' 0 6) := by simp [decodeControl, h]

theorem decodeControl_code_two {b : Byte} (h : b.extractLsb' 6 2 = 2) :
    decodeControl true b = .wcReg (b.extractLsb' 3 3) (b.extractLsb' 0 3) := by simp [decodeControl, h]

theorem decodeControl_code_three {b : Byte} (h : b.extractLsb' 6 2 = 3) :
    decodeControl true b = .wcReg3 (b.extractLsb' 3 3) (b.extractLsb' 0 3) := by simp [decodeControl, h]

/-- The four command codes. -/
theorem commandCode_cases (k : BitVec 2) : k = 0 ∨ k = 1 ∨ k = 2 ∨ k = 3 := by
  revert k; decide

theorem wellFormed_decodeControl (second : Bool) (b : Byte) : (decodeControl second b).wellFormed second = true := by
  cases second with
  | false => rfl
  | true =>
    obtain h | h | h | h := commandCode_cases (b.extractLsb' 6 2)
    · rw [decodeControl_code_zero h]; rfl
    · rw [decodeControl_code_one h]; rfl
    · rw [decodeControl_code_two h]; rfl
    · rw [decodeControl_code_three h]; rfl

/-- A control byte is encoded as it came, in either phase. -/
theorem encode_decodeControl (second : Bool) (b : Byte) : encode (decodeControl second b) = transactionWord 0x2 b := by
  cases second with
  | false => rfl
  | true =>
    obtain h | h | h | h := commandCode_cases (b.extractLsb' 6 2)
    · rw [decodeControl_code_zero h]
      exact congrArg (transactionWord 0x2) (h ▸ setupByte_fields b)
    · rw [decodeControl_code_one h]
      exact congrArg (transactionWord 0x2) (h ▸ setupByte_fields b)
    · rw [decodeControl_code_two h]
      exact congrArg (transactionWord 0x2) (h ▸ registerByte_fields b)
    · rw [decodeControl_code_three h]
      exact congrArg (transactionWord 0x2) (h ▸ registerByte_fields b)

/-! ### Decoding a word (R80, R81, R82) -/

theorem decode_control (second : Bool) (b : Byte) :
    decode second (transactionWord 0x2 b) = .ok (decodeControl second b) := by simp [decode]

theorem decode_data (second : Bool) (b : Byte) : decode second (transactionWord 0x3 b) = .ok (.wd b) := by simp [decode]

/-- What a word decodes to: a control byte, a data byte, or a transaction without operand, whose canonical word has the kind
and operand byte 0x00. -/
theorem decode_ok_cases {second : Bool} {w : TransactionWord} {i : Instr} (h : decode second w = .ok i) :
    (w.kind = 0x2 ∧ i = decodeControl second w.operand) ∨ (w.kind = 0x3 ∧ i = .wd w.operand) ∨
    (w.kind ≠ 0x2 ∧ w.kind ≠ 0x3 ∧ i.phase = none ∧ encode i = transactionWord w.kind 0x00) := by
  have hkind : w.kind = BitVec.ofNat 4 w.kind.toNat := by simp
  unfold decode at h
  split at h
  case h_3 hk =>
    cases h
    exact .inl ⟨BitVec.eq_of_toNat_eq hk, rfl⟩
  case h_4 hk =>
    cases h
    exact .inr (.inl ⟨BitVec.eq_of_toNat_eq hk, rfl⟩)
  case h_13 => cases h
  all_goals
    rename_i hk
    rw [hk] at hkind
    cases h
    rw [hkind]
    exact .inr (.inr ⟨by decide, by decide, rfl, rfl⟩)

/-- Kinds 0xC to 0xF are the words that are no transaction (R82). -/
theorem decode_error_iff {second : Bool} {w : TransactionWord} {e : DecodeError} :
    decode second w = .error e ↔ 12 ≤ w.kind.toNat ∧ e = .noSuchTransaction w.kind := by
  unfold decode
  split
  case h_13 =>
    have hk : 12 ≤ w.kind.toNat := by
      simp only [imp_false] at *
      omega
    simp [hk, eq_comm]
  all_goals
    rename_i hk
    simp [hk]

/-- Only a control byte depends on the control-latch flag (R84). -/
theorem decode_phase_irrelevant {w : TransactionWord} (h : w.kind ≠ 0x2) (p q : Bool) : decode p w = decode q w := by
  unfold decode
  split
  case h_3 hk => exact absurd (BitVec.eq_of_toNat_eq hk) h
  all_goals rfl

/-- A transaction with a phase is well formed in that phase only. -/
theorem phase_eq_of_wellFormed {second p : Bool} {i : Instr} (hp : i.phase = some p) (h : i.wellFormed second = true) :
    p = second := by simpa [Instr.wellFormed, hp] using h

/-- The round trip from the transaction's side, for the phase the transaction exists in. -/
theorem decode_encode {second : Bool} {i : Instr} (h : i.wellFormed second = true) : decode second (encode i) = .ok i := by
  cases i with
  | wcFirst b =>
    obtain rfl := phase_eq_of_wellFormed rfl h
    exact decode_control false b
  | wcRsetup a =>
    obtain rfl := phase_eq_of_wellFormed rfl h
    rw [encode, decode_control, decodeControl_code_zero (commandCode_setupByte _ a), addressBits_setupByte]
  | wcWsetup a =>
    obtain rfl := phase_eq_of_wellFormed rfl h
    rw [encode, decode_control, decodeControl_code_one (commandCode_setupByte _ a), addressBits_setupByte]
  | wcReg x r =>
    obtain rfl := phase_eq_of_wellFormed rfl h
    rw [encode, decode_control, decodeControl_code_two (commandCode_registerByte _ x r),
      ignoredBits_registerByte, indexBits_registerByte]
  | wcReg3 x r =>
    obtain rfl := phase_eq_of_wellFormed rfl h
    rw [encode, decode_control, decodeControl_code_three (commandCode_registerByte _ x r),
      ignoredBits_registerByte, indexBits_registerByte]
  | wd b => exact decode_data second b
  | _ => rfl

end Sys2Proof

namespace Sys2Proof.Safety

open Sys2Proof.Machine

/-- The refusals a transaction itself can end in are the three of the lifecycle (R213). -/
theorem exec_refused_cases {i : Instr} {s : State} {r : Refusal} (h : exec i s = .refused r) :
    r = .noDevice ∨ r = .deviceShut ∨ r = .deviceExists := by
  by_cases hi : i = .init
  · subst hi
    change execInit s = .refused r at h
    unfold execInit at h
    split at h <;> cases h <;> simp
  · obtain ⟨f, hf, -⟩ := exec_eq_whenLive hi
    rw [hf] at h
    unfold State.whenLive at h
    split at h <;> cases h <;> simp

theorem step_of_decode_error {s : State} {w : TransactionWord} {rest : List TransactionWord} {k : BitVec 4}
    (hp : s.pending = w :: rest) (hd : decode s.second w = .error (.noSuchTransaction k)) :
    step s = .refused (.noSuchTransaction k) := by
  simp only [step, hp, hd]

/-! ### The obligations -/

/-- Settles O1, by cases on the transaction: a control byte is read back by its phase and its command code, every other
kind by its number. -/
theorem encodeThenDecodeIsIdentity : Obligations.EncodeThenDecodeIsIdentity := by
  intro second i h
  exact decode_encode h

/-- Settles O2, by what a word can decode to. -/
theorem decodeThenEncodeKeepsWord : Obligations.DecodeThenEncodeKeepsWord := by
  intro second w i h
  have hw := eq_transactionWord w
  obtain ⟨hk, rfl⟩ | ⟨hk, rfl⟩ | ⟨h2, h3, hphase, hencode⟩ := decode_ok_cases h
  · have hword : encode (decodeControl second w.operand) = w := by rw [encode_decodeControl, ← hk, ← hw]
    exact ⟨wellFormed_decodeControl second _, by rw [hword], fun _ => hword, fun h2 => absurd hk h2⟩
  · have hword : encode (.wd w.operand) = w := by rw [encode, ← hk, ← hw]
    exact ⟨rfl, by rw [hword], fun _ => hword, fun _ h3 => absurd hk h3⟩
  · refine ⟨by rw [Instr.wellFormed, hphase], by rw [hencode, kind_transactionWord], ?_, ?_⟩
    · rintro (hk | hk)
      · exact absurd hk h2
      · exact absurd hk h3
    · intro _ _
      rw [hencode, operand_transactionWord]

/-- Settles O3: closed words, which the decoder evaluates. -/
theorem writtenOutWordsDecode : Obligations.WrittenOutWordsDecode := by
  unfold Obligations.WrittenOutWordsDecode
  decide

/-- Settles O4, by the decoder's rule for a control byte of each phase and command code. -/
theorem controlByteIsReadByPhaseAndCode : Obligations.ControlByteIsReadByPhaseAndCode := by
  have hcode : ∀ (b : Byte) (k : Nat), b.toNat / 64 = k → b.extractLsb' 6 2 = BitVec.ofNat 2 k := by
    intro b k h
    rw [← h, ← commandCode_toNat, BitVec.ofNat_toNat, BitVec.setWidth_eq]
  refine ⟨fun b => decode_control false b, ?_, ?_, ?_, ?_, fun w h => decode_phase_irrelevant h true false⟩
  · intro b h
    rw [decode_control, decodeControl_code_zero (hcode b 0 h)]
    rfl
  · intro b h
    rw [decode_control, decodeControl_code_one (hcode b 1 h)]
    rfl
  · intro b h
    rw [decode_control, decodeControl_code_two (hcode b 2 h), ignoredBits_eq]
    rfl
  · intro b h
    rw [decode_control, decodeControl_code_three (hcode b 3 h), ignoredBits_eq]
    rfl

/-- Settles O7: the decoder rejects exactly these kinds, and a transaction is never refused for its kind. -/
theorem undefinedKindsAreRefused : Obligations.UndefinedKindsAreRefused := by
  intro s w rest hp
  constructor
  · intro h
    cases hd : decode s.second w with
    | ok i =>
      rw [step_of_decode_ok hp hd] at h
      simpa using exec_refused_cases h
    | error e => exact (decode_error_iff.mp hd).1
  · intro hk
    exact step_of_decode_error hp (decode_error_iff.mpr ⟨hk, rfl⟩)

end Sys2Proof.Safety
end

section
/-! SUPPORT. Runs of control bytes and data accesses on a live device (30_encoding.md R89, R92) and the mode bits (R90):
one rule per transaction for its next state, and the obligations O25, O27 and O32. -/

namespace Sys2Proof.Machine

/-! ### The next state of a port transaction on a live device -/

/-- The state a first control byte leaves (R100). -/
def State.afterFirst (s : State) (b : Byte) : State :=
  { s with
    cmd := s.cmd.extractLsb' 8 8 ++ b
    addr := s.addr.extractLsb' 8 6 ++ b
    second := true
    result := .nothing }

theorem exec_wcFirst_of_live {s : State} (h : s.life = .live) (b : Byte) :
    exec (.wcFirst b) s = .next (s.afterFirst b) := by
  simp only [exec, execWcFirst, State.whenLive_of_live h, State.latchFirst_eq]
  rfl

/-- A register write, command code 2 (R103, R130). -/
theorem exec_wcReg_of_live {s : State} (h : s.life = .live) (x r : BitVec 3) :
    exec (.wcReg x r) s = .next { s with
      reg := s.reg.set r.toNat (s.cmd.extractLsb' 0 8) r.isLt
      cmd := registerByte 0b10 x r ++ s.cmd.extractLsb' 0 8
      irq := s.irq || (decide (r = 1) && s.vblank && s.cmd.getLsbD 5)
      second := false
      result := .nothing } := by
  simp only [exec, execWcReg, State.whenLive_of_live h, State.registerCommand_eq]
  rfl

/-- R107. -/
theorem exec_rd_of_live {s : State} (h : s.life = .live) :
    exec .rd s = .next { s with
      second := false
      rbuf := s.readVram s.addr
      addr := s.addr + 1
      result := .byte s.rbuf } := by
  simp only [exec, execRd, State.whenLive_of_live h]
  rfl

/-- R110. -/
theorem exec_rs_of_live {s : State} (h : s.life = .live) :
    exec .rs s = .next { s.acknowledge with result := .byte (statusByte s) } := by
  simp only [exec, execRs, State.whenLive_of_live h, State.finish_eq]

/-- R104. -/
theorem exec_wd_of_live {s : State} (h : s.life = .live) (b : Byte) :
    exec (.wd b) s = .next { s with
      second := false
      vram := Memory.write s.vram s.addr b
      rbuf := b
      addr := s.addr + 1
      result := .nothing } := by
  simp only [exec, execWd, State.whenLive_of_live h]
  rfl

/-- What RD, RS and WD have in common: the latch flag is reset, command word and registers stay, and the address latch
counts but for RS (R89). -/
theorem exec_access_of_live {x : Instr} {s : State} (h : s.life = .live) (hx : x = .rd ∨ x = .rs ∨ ∃ d, x = .wd d) :
    ∃ t, exec x s = .next t ∧ t.second = false ∧ t.cmd = s.cmd ∧ t.reg = s.reg ∧ t.life = .live ∧
      t.pending = s.pending ∧ t.addr = if x = .rs then s.addr else s.addr + 1 := by
  obtain rfl | rfl | ⟨d, rfl⟩ := hx
  · exact ⟨_, exec_rd_of_live h, rfl, rfl, rfl, h, rfl, by simp⟩
  · exact ⟨_, exec_rs_of_live h, rfl, rfl, rfl, h, rfl, by simp⟩
  · exact ⟨_, exec_wd_of_live h d, rfl, rfl, rfl, h, rfl, by simp⟩

/-! ### The byte a first control byte leaves -/

/-- The low byte of the command word and of the latch is the byte put there. -/
theorem lowByte_append {n : Nat} (high : BitVec n) (b : Byte) : (high ++ b).extractLsb' 0 8 = b :=
  BitVec.extractLsb'_append_eq_right

/-- Bit 5 of the command word is the value's bit 5, the one R145 looks at. -/
theorem bitFive_append {n : Nat} (high : BitVec n) (b : Byte) : (high ++ b).getLsbD 5 = b.getLsbD 5 := by
  rw [BitVec.getLsbD_append]
  rfl

/-- The second byte of SETREG in the spelling of R88: code 2 and ignored bits 0. -/
theorem registerByte_setreg (n : BitVec 3) : registerByte 0b10 0 n = ((0b10000 : BitVec 5) ++ n : BitVec 8) := by
  revert n; decide

/-! ### The mode index -/

/-- The mode index in terms of R1.3, R0.1 and R1.4 (R140). -/
theorem State.modeIndex_eq (s : State) :
    s.modeIndex = 4 * ((s.readReg 1).getLsbD 3).toNat + 2 * ((s.readReg 0).getLsbD 1).toNat +
      ((s.readReg 1).getLsbD 4).toNat := by
  simp only [State.modeIndex, State.regNat, shift_and_one]
  generalize (s.readReg 1).getLsbD 3 = m3, (s.readReg 0).getLsbD 1 = m2, (s.readReg 1).getLsbD 4 = m1
  revert m3 m2 m1
  decide

end Sys2Proof.Machine

namespace Sys2Proof.Safety

open Sys2Proof.Machine

/-! ### Steps of encoded transactions -/

/-- The step of a transaction given by its canonical word, in the phase it exists in. -/
theorem step_of_encode {s : State} {i : Instr} {rest : List TransactionWord} (hp : s.pending = encode i :: rest)
    (hwf : i.wellFormed s.second = true) : step s = exec i { s with pending := rest } :=
  step_of_decode_ok hp (decode_encode hwf)

/-- With the latch flag false a control byte is a first byte (R84). -/
theorem step_firstByte {s : State} {b : Byte} {rest : List TransactionWord} (hlive : s.life = .live)
    (hsecond : s.second = false) (hp : s.pending = transactionWord 0x2 b :: rest) :
    step s = .next (State.afterFirst { s with pending := rest } b) := by
  have hwf : (Instr.wcFirst b).wellFormed s.second = true := by rw [hsecond]; rfl
  rw [step_of_encode hp hwf]
  exact exec_wcFirst_of_live (s := { s with pending := rest }) hlive b

/-! ### The obligations -/

/-- Settles O25: the access resets the latch flag and leaves the command word, so the third word is a first byte. -/
theorem interruptedPairIsAbandoned : Obligations.InterruptedPairIsAbandoned := by
  intro s b b' x rest hlive hsecond hx hp
  have hfirst := step_firstByte hlive hsecond hp
  have hwf : x.wellFormed true = true := by obtain rfl | rfl | ⟨d, rfl⟩ := hx <;> rfl
  obtain ⟨t, hexec, hsecond', hcmd, hreg, hlive', hp', haddr⟩ :=
    exec_access_of_live (s := State.afterFirst { s with pending := transactionWord 0x2 b' :: rest } b) hlive hx
  have haccess := (step_of_encode
    (s := State.afterFirst { s with pending := encode x :: transactionWord 0x2 b' :: rest } b) rfl hwf).trans hexec
  have hlast := step_firstByte hlive' hsecond' hp'
  refine ⟨⟨_, run_succ_of_step hfirst 0, rfl, lowByte_append _ b, lowByte_append _ b⟩, ⟨t, ?_, hsecond', ?_, haddr⟩,
    ⟨State.afterFirst { t with pending := rest } b', ?_, rfl, rfl, lowByte_append _ b', lowByte_append _ b', hreg⟩⟩
  · rw [run_succ_of_step hfirst, run_succ_of_step haccess, run_zero]
  · rw [hcmd]
    exact lowByte_append _ b
  · rw [run_succ_of_step hfirst, run_succ_of_step haccess, run_succ_of_step hlast, run_zero]

/-- Settles O27: a first byte, then a register write of command code 2 that finds the value in the command word. -/
theorem setregWritesTheRegister : Obligations.SetregWritesTheRegister := by
  intro s n val rest hlive hsecond hp
  rw [expand_setreg] at hp
  have hfirst := step_firstByte hlive hsecond hp
  have hwrite := exec_wcReg_of_live (s := State.afterFirst { s with pending := rest } val) hlive 0 n
  have hsecondByte := (step_of_encode (s := State.afterFirst { s with pending := encode (.wcReg 0 n) :: rest } val)
    rfl rfl).trans hwrite
  refine (run_succ_of_step hfirst 1).trans ((run_succ_of_step hsecondByte 0).trans ?_)
  simp only [run_zero, State.afterFirst, lowByte_append, bitFive_append, registerByte_setreg, hsecond]

/-- Settles O32, by the eight combinations of the three bits the mode index is made of. -/
theorem modeBitsSelectTheMode : Obligations.ModeBitsSelectTheMode := by
  intro s
  rw [State.modeIndex_eq]
  cases (s.readReg 1).getLsbD 3 <;> cases (s.readReg 0).getLsbD 1 <;> cases (s.readReg 1).getLsbD 4 <;> rfl

end Sys2Proof.Safety
end

section
/-! SUPPORT. The port interface (40_port_interface.md): the VRAM setups and the data port, reads in a row (R108), writes in
a row (R64), SETREG twice (R112), and the obligations O15 to O21, O23, O24 and O28. -/

namespace Sys2Proof.Machine

/-! ### The latch in plain arithmetic -/

/-- The latch moved on by `n`, modulo 0x4000 (20_memory.md R64). -/
theorem latch_advance (a : VramAddr) (n : Nat) : a + BitVec.ofNat 14 n = BitVec.ofNat 14 ((a.toNat + n) % 0x4000) := by
  apply BitVec.eq_of_toNat_eq
  simp

theorem latch_advance_one (a : VramAddr) : a + 1 = BitVec.ofNat 14 ((a.toNat + 1) % 0x4000) := latch_increment a

/-- Two advances of the latch are one. -/
theorem latch_advance_add (a : VramAddr) (m n : Nat) :
    a + BitVec.ofNat 14 m + BitVec.ofNat 14 n = a + BitVec.ofNat 14 (m + n) := by
  rw [BitVec.ofNat_add, BitVec.add_assoc]

/-- The setup address (R101): six bits over the low byte of the command word. -/
theorem setupAddress_toNat (a : BitVec 6) (c : CommandWord) :
    (a ++ c.extractLsb' 0 8 : VramAddr).toNat = a.toNat * 256 + c.toNat % 256 := by
  have hlow : (c.extractLsb' 0 8).toNat = c.toNat % 256 := by simp
  have hlt : c.toNat % 256 < 2 ^ 8 := Nat.mod_lt _ (by decide)
  rw [BitVec.toNat_append, hlow, ← Nat.shiftLeft_add_eq_or_of_lt hlt, Nat.shiftLeft_eq]

/-! ### The VRAM setups on a live device -/

/-- R101. -/
theorem exec_wcRsetup_of_live {s : State} (h : s.life = .live) (a : BitVec 6) :
    exec (.wcRsetup a) s = .next { s with
      cmd := setupByte 0b00 a ++ s.cmd.extractLsb' 0 8
      rbuf := s.readVram (a ++ s.cmd.extractLsb' 0 8)
      addr := (a ++ s.cmd.extractLsb' 0 8 : VramAddr) + 1
      second := false
      result := .nothing } := by
  have haddr := commandAddress_setup 0b00 a (s.cmd.extractLsb' 0 8)
  simp only [exec, execWcRsetup, State.whenLive_of_live h, State.latchSecond_eq, haddr]
  rfl

/-- R102. -/
theorem exec_wcWsetup_of_live {s : State} (h : s.life = .live) (a : BitVec 6) :
    exec (.wcWsetup a) s = .next { s with
      cmd := setupByte 0b01 a ++ s.cmd.extractLsb' 0 8
      addr := a ++ s.cmd.extractLsb' 0 8
      second := false
      result := .nothing } := by
  have haddr := commandAddress_setup 0b01 a (s.cmd.extractLsb' 0 8)
  simp only [exec, execWcWsetup, State.whenLive_of_live h, State.latchSecond_eq, haddr]
  rfl

/-! ### A run of equal writes -/

/-- The memory after `n` writes of `b` from address `a` on, modulo 0x4000. -/
def Memory.fill (m : Memory) (a : VramAddr) (b : Byte) : Nat → Memory
  | 0 => m
  | n + 1 => Memory.write (Memory.fill m a b n) (a + BitVec.ofNat 14 n) b

theorem Memory.wf_fill {m : Memory} (a : VramAddr) (b : Byte) (n : Nat) (h : Memory.wf m = true) :
    Memory.wf (Memory.fill m a b n) = true := by
  induction n with
  | zero => exact h
  | succ n ih => exact Memory.wf_write _ b ih

/-- Every address that was written reads as `b`: a later write to it stores `b` again. -/
theorem Memory.read_fill {m : Memory} (a : VramAddr) (b : Byte) {k n : Nat} (h : Memory.wf m = true) (hk : k < n) :
    Memory.read (Memory.fill m a b n) (a + BitVec.ofNat 14 k) = b := by
  induction n with
  | zero => exact absurd hk (Nat.not_lt_zero k)
  | succ n ih =>
    rw [Memory.fill]
    by_cases heq : a + BitVec.ofNat 14 k = a + BitVec.ofNat 14 n
    · rw [heq]
      exact Memory.read_write_same _ b (Memory.wf_fill a b n h)
    · have hne : k ≠ n := by rintro rfl; exact heq rfl
      rw [Memory.read_write_other _ b heq]
      exact ih (by omega)

/-- As many writes as VRAM has bytes reach every address, wherever they begin. -/
theorem Memory.read_fill_size {m : Memory} (a a' : VramAddr) (b : Byte) (h : Memory.wf m = true) :
    Memory.read (Memory.fill m a b Memory.size) a' = b := by
  have hread := Memory.read_fill (n := Memory.size) a b h (a' - a).isLt
  rwa [BitVec.ofNat_toNat, BitVec.setWidth_eq, BitVec.add_comm, BitVec.sub_add_cancel] at hread

/-! ### SETREG -/

/-- The state SETREG `n`, `val` leaves (R92, R130). -/
def State.afterSetreg (s : State) (n : BitVec 3) (val : Byte) : State :=
  { s with
    reg := s.reg.set n.toNat val n.isLt
    cmd := ((0b10000 : BitVec 5) ++ n : BitVec 8) ++ val
    addr := s.addr.extractLsb' 8 6 ++ val
    irq := s.irq || (decide (n = 1) && s.vblank && val.getLsbD 5)
    result := .nothing }

/-- The second SETREG finds the register, the latch's low byte and the pending latch as it would leave them. -/
theorem State.afterSetreg_afterSetreg (s : State) (n : BitVec 3) (val : Byte) :
    (s.afterSetreg n val).afterSetreg n val = s.afterSetreg n val := by
  have hreg : (s.reg.set n.toNat val n.isLt).set n.toNat val n.isLt = s.reg.set n.toNat val n.isLt := Vector.set_set ..
  have haddr : (s.addr.extractLsb' 8 6 ++ val : VramAddr).extractLsb' 8 6 = s.addr.extractLsb' 8 6 :=
    BitVec.extractLsb'_append_eq_left
  simp only [State.afterSetreg, hreg, haddr, Bool.or_assoc, Bool.or_self]

end Sys2Proof.Machine

namespace Sys2Proof.Safety

open Sys2Proof.Machine

/-! ### A run over a list of words -/

theorem run_one (s : State) : run 1 s = step s := by
  unfold run
  cases step s <;> rfl

/-- The induction over the words of a run: if every step that takes one of `ws` completes and extends `P` by that word, the
run over `ws` completes and extends `P` by `ws`. -/
theorem run_words {P : List TransactionWord → State → Prop} {ws : List TransactionWord}
    (hstep : ∀ w ∈ ws, ∀ done rest s, P done s → s.pending = w :: rest →
      ∃ t, step s = .next t ∧ t.pending = rest ∧ P (done ++ [w]) t)
    {done rest : List TransactionWord} {s : State} (hs : P done s) (hp : s.pending = ws ++ rest) :
    ∃ t, run ws.length s = .next t ∧ t.pending = rest ∧ P (done ++ ws) t := by
  induction ws generalizing done s with
  | nil => exact ⟨s, rfl, hp, by rwa [List.append_nil]⟩
  | cons w ws ih =>
    obtain ⟨u, hu, hpu, hPu⟩ := hstep w List.mem_cons_self done (ws ++ rest) s hs hp
    obtain ⟨t, ht, hpt, hPt⟩ := ih (fun w' hw' => hstep w' (List.mem_cons_of_mem w hw')) hPu hpu
    refine ⟨t, (run_succ_of_step hu ws.length).trans ht, hpt, ?_⟩
    rwa [List.append_assoc] at hPt

/-- Behind the lifecycle check, every transaction but INIT and SHUTDOWN leaves the lifecycle and the host's pending
transactions. -/
theorem exec_eq_whenLive_life_pending {i : Instr} (hinit : i ≠ .init) (hshut : i ≠ .shutdown) :
    ∃ f : State → State, (∀ s, exec i s = s.whenLive fun s => .next (f s)) ∧
      ∀ s, (f s).life = s.life ∧ (f s).pending = s.pending := by
  cases i with
  | init => exact absurd rfl hinit
  | shutdown => exact absurd rfl hshut
  | tick => exact ⟨_, fun _ => rfl, fun s => by dsimp only; split <;> split <;> simp⟩
  | wcReg x r => exact ⟨_, fun _ => rfl, fun s => by simp [State.registerCommand]⟩
  | wcReg3 x r => exact ⟨_, fun _ => rfl, fun s => by simp [State.registerCommand]⟩
  | _ => exact ⟨_, fun _ => rfl, fun _ => ⟨rfl, rfl⟩⟩

theorem life_pending_of_exec_next {i : Instr} {s t : State} (hinit : i ≠ .init) (hshut : i ≠ .shutdown)
    (h : exec i s = .next t) : t.life = s.life ∧ t.pending = s.pending := by
  obtain ⟨f, hf, hkeep⟩ := exec_eq_whenLive_life_pending hinit hshut
  rw [hf, State.whenLive_next_iff] at h
  obtain ⟨-, hnext⟩ := h
  cases hnext
  exact hkeep s

/-! ### Control pairs (R84, R92) -/

/-- The run of a control pair: the first byte, and then the second-byte transaction on the state it leaves. -/
theorem run_pair {s : State} {b : Byte} {i : Instr} {rest : List TransactionWord} (hlive : s.life = .live)
    (hsecond : s.second = false) (hp : s.pending = encode (.wcFirst b) :: encode i :: rest)
    (hwf : i.wellFormed true = true) : run 2 s = exec i (State.afterFirst { s with pending := rest } b) := by
  have hfirst := step_firstByte hlive hsecond hp
  have hsecondByte := step_of_encode (s := State.afterFirst { s with pending := encode i :: rest } b) rfl hwf
  exact (run_succ_of_step hfirst 1).trans ((run_one _).trans hsecondByte)

/-- The address a setup assembles after its first byte is the one SETR and SETW name (R92). -/
theorem setup_afterFirst (s : State) (a : VramAddr) :
    (a.extractLsb' 8 6 ++ (s.afterFirst (a.extractLsb' 0 8)).cmd.extractLsb' 0 8 : VramAddr) = a := by
  rw [State.afterFirst, lowByte_append, setup_halves]

/-! ### Reads in a row (R108) -/

/-- A live device whose next RD returns the byte of `m` at `a`: VRAM is `m`, the byte is in the read buffer, and the latch is
one past it. -/
structure ReadsAt (m : Memory) (a : VramAddr) (s : State) : Prop where
  life : s.life = .live
  vram : s.vram = m
  rbuf : s.rbuf = Memory.read m a
  addr : s.addr = a + 1

/-- The transactions that touch neither VRAM, nor the latch, nor the read buffer, nor the lifecycle, and are no control
byte (R108). -/
def quiet : Instr → Bool
  | .rs => true
  | .tick => true
  | .ci => true
  | .fb => true
  | .width => true
  | .height => true
  | .spf => true
  | _ => false

theorem decode_rd (second : Bool) (b : Byte) : decode second (transactionWord 0x4 b) = .ok .rd := by simp [decode]

/-- A word that `readOrQuiet` admits is an RD or decodes to a quiet transaction, by its kind. -/
theorem decode_of_readOrQuiet (second : Bool) {w : TransactionWord} (h : readOrQuiet w = true) :
    (w.kind = 0x4 ∧ decode second w = .ok .rd) ∨ (w.kind ≠ 0x4 ∧ ∃ i, quiet i = true ∧ decode second w = .ok i) := by
  have hbounds : 4 ≤ w.kind.toNat ∧ w.kind.toNat ≤ 11 := by simpa [readOrQuiet] using h
  by_cases hrd : w.kind = 0x4
  · left
    rw [eq_transactionWord w, hrd]
    exact ⟨kind_transactionWord _ _, decode_rd second w.operand⟩
  · right
    have hne : w.kind.toNat ≠ 4 := fun e => hrd (BitVec.eq_of_toNat_eq e)
    obtain ⟨hlo, hhi⟩ := hbounds
    refine ⟨hrd, ?_⟩
    unfold decode
    generalize w.kind.toNat = k at hlo hhi hne
    interval_cases k
    · exact absurd rfl hne
    all_goals exact ⟨_, rfl, rfl⟩

/-- What a quiet transaction leaves. -/
theorem exec_quiet_of_live {i : Instr} {s : State} (hi : quiet i = true) (hlive : s.life = .live) :
    ∃ t, exec i s = .next t ∧ t.vram = s.vram ∧ t.addr = s.addr ∧ t.rbuf = s.rbuf ∧ t.life = s.life ∧
      t.pending = s.pending := by
  have hinit : i ≠ .init := by rintro rfl; cases hi
  have hshut : i ≠ .shutdown := by rintro rfl; cases hi
  obtain ⟨t, ht⟩ := liveDeviceCompletesEveryTransaction i s hlive hinit
  have hf := fieldsAfter_of_exec_next hinit ht
  obtain ⟨hlife, hpending⟩ := life_pending_of_exec_next hinit hshut ht
  have hkeep : vramAfter i s = s.vram ∧ addrAfter i s = s.addr ∧ rbufAfter i s = s.rbuf := by
    unfold quiet at hi
    split at hi
    case h_8 => cases hi
    all_goals exact ⟨rfl, rfl, rfl⟩
  obtain ⟨hvram, haddr, hrbuf⟩ := hkeep
  exact ⟨t, ht, hf.vram.trans hvram, hf.addr.trans haddr, hf.rbuf.trans hrbuf, hlife, hpending⟩

/-- A read returns the byte and moves on to the next one (R107). -/
theorem ReadsAt.step_rd {m : Memory} {a : VramAddr} {s : State} {w : TransactionWord} {rest : List TransactionWord}
    (h : ReadsAt m a s) (hp : s.pending = w :: rest) (hd : decode s.second w = .ok .rd) :
    ∃ t, step s = .next t ∧ t.pending = rest ∧ ReadsAt m (a + 1) t ∧ t.result = .byte (Memory.read m a) := by
  obtain ⟨hlive, rfl, hrbuf, haddr⟩ := h
  refine ⟨_, (step_of_decode_ok hp hd).trans (exec_rd_of_live hlive), rfl, ⟨hlive, rfl, ?_, ?_⟩, ?_⟩
  · exact congrArg (Memory.read s.vram) haddr
  · exact congrArg (· + 1) haddr
  · exact congrArg HostResult.byte hrbuf

/-- A step of a read or of a quiet word moves the next byte on by the reads in it. -/
theorem ReadsAt.step_readOrQuiet {m : Memory} {a : VramAddr} {s : State} {w : TransactionWord}
    {rest : List TransactionWord} (h : ReadsAt m a s) (hw : readOrQuiet w = true) (hp : s.pending = w :: rest) :
    ∃ t, step s = .next t ∧ t.pending = rest ∧ ReadsAt m (a + BitVec.ofNat 14 (readCount [w])) t := by
  obtain ⟨hk, hd⟩ | ⟨hk, i, hi, hd⟩ := decode_of_readOrQuiet s.second hw
  · obtain ⟨t, ht, hpt, hread, -⟩ := h.step_rd hp hd
    have hcount : readCount [w] = 1 := by simp [readCount, hk]
    exact ⟨t, ht, hpt, by rwa [hcount]⟩
  · obtain ⟨hlive, hvram, hrbuf, haddr⟩ := h
    have hcount : readCount [w] = 0 := by simpa [readCount] using hk
    obtain ⟨t, ht, htvram, htaddr, htrbuf, htlife, htp⟩ :=
      exec_quiet_of_live (s := { s with pending := rest }) hi hlive
    refine ⟨t, (step_of_decode_ok hp hd).trans ht, htp, ?_⟩
    rw [hcount, BitVec.add_zero]
    exact ⟨htlife.trans hlive, htvram.trans hvram, htrbuf.trans hrbuf, htaddr.trans haddr⟩

theorem readCount_append (ws ws' : List TransactionWord) : readCount (ws ++ ws') = readCount ws + readCount ws' :=
  List.countP_append

/-- A run of reads and quiet words moves the next byte on by the number of reads. -/
theorem ReadsAt.run_readOrQuiet {m : Memory} {a : VramAddr} {s : State} {ws rest : List TransactionWord}
    (h : ReadsAt m a s) (hws : ∀ w ∈ ws, readOrQuiet w = true) (hp : s.pending = ws ++ rest) :
    ∃ t, run ws.length s = .next t ∧ t.pending = rest ∧ ReadsAt m (a + BitVec.ofNat 14 (readCount ws)) t := by
  refine run_words (P := fun done => ReadsAt m (a + BitVec.ofNat 14 (readCount done))) (done := []) ?_
    (by simpa [readCount] using h) hp
  intro w hw done rest' u hu hpu
  obtain ⟨t, ht, hpt, hread⟩ := hu.step_readOrQuiet (hws w hw) hpu
  rw [latch_advance_add, ← readCount_append] at hread
  exact ⟨t, ht, hpt, hread⟩

/-- SETR leaves the byte at `a` to be read next (R101). -/
theorem run_setr {s : State} {a : VramAddr} {rest : List TransactionWord} (hlive : s.life = .live)
    (hsecond : s.second = false) (hp : s.pending = (ProgramItem.setr a).expand ++ rest) :
    ∃ t, run 2 s = .next t ∧ t.pending = rest ∧ ReadsAt s.vram a t := by
  rw [expand_setr] at hp
  have hsetup := exec_wcRsetup_of_live (s := State.afterFirst { s with pending := rest } (a.extractLsb' 0 8)) hlive
    (a.extractLsb' 8 6)
  refine ⟨_, (run_pair hlive hsecond hp rfl).trans hsetup, rfl, hlive, rfl, ?_, ?_⟩
  · exact congrArg (Memory.read s.vram) (setup_afterFirst _ a)
  · exact congrArg (· + 1) (setup_afterFirst _ a)

/-- The read sequence law (R108): after SETR `a` and the words `ws`, RD returns the byte at `a` plus the reads in `ws`. -/
theorem run_readSequence {s : State} {a : VramAddr} {ws rest : List TransactionWord} (hlive : s.life = .live)
    (hsecond : s.second = false) (hws : ∀ w ∈ ws, readOrQuiet w = true)
    (hp : s.pending = (ProgramItem.setr a).expand ++ (ws ++ encode .rd :: rest)) :
    ∃ t, run (ws.length + 3) s = .next t ∧ t.pending = rest ∧
      t.result = .byte (s.readVram (a + BitVec.ofNat 14 (readCount ws))) := by
  obtain ⟨s₁, hrun₁, hp₁, hread₁⟩ := run_setr hlive hsecond hp
  obtain ⟨s₂, hrun₂, hp₂, hread₂⟩ := hread₁.run_readOrQuiet hws hp₁
  obtain ⟨t, hstep, hpt, -, hresult⟩ := hread₂.step_rd hp₂ (decode_rd s₂.second 0x00)
  refine ⟨t, ?_, hpt, hresult⟩
  calc run (ws.length + 3) s
      = run (2 + (ws.length + 1)) s := by rw [Nat.add_comm 2, Nat.add_assoc]
    _ = run (ws.length + 1) s₁ := run_add_of_run hrun₁ _
    _ = run 1 s₂ := run_add_of_run hrun₂ 1
    _ = .next t := run_succ_of_step hstep 0

/-- The read sequence of reads alone: the read after `k` reads returns the byte at `a` plus `k`. -/
theorem run_setr_rd {s : State} {a : VramAddr} {k : Nat} {rest : List TransactionWord} (hlive : s.life = .live)
    (hsecond : s.second = false)
    (hp : s.pending = (ProgramItem.setr a).expand ++ (List.replicate k (encode .rd) ++ encode .rd :: rest)) :
    ∃ t, run (k + 3) s = .next t ∧ t.pending = rest ∧ t.result = .byte (s.readVram (a + BitVec.ofNat 14 k)) := by
  have hword : readOrQuiet (encode .rd) = true ∧ (encode .rd).kind = 0x4 := by decide
  have hws : ∀ w ∈ List.replicate k (encode .rd), readOrQuiet w = true := fun w hw => by
    rw [List.eq_of_mem_replicate hw]
    exact hword.1
  have hcount : readCount (List.replicate k (encode .rd)) = k := by
    simp [readCount, List.countP_replicate, hword.2]
  have h := run_readSequence hlive hsecond hws hp
  rwa [List.length_replicate, hcount] at h

/-- Element `k` of `n` equal elements, with the ones before and after it. -/
theorem replicate_eq_append_cons {α : Type} {k n : Nat} (h : k < n) (x : α) :
    List.replicate n x = List.replicate k x ++ x :: List.replicate (n - (k + 1)) x := by
  rw [← List.replicate_succ, ← List.replicate_add]
  congr 1
  omega

/-! ### Writes in a row (R64, R104) -/

/-- A live device in the first phase whose next WD stores at `a`; VRAM is `m`. -/
structure WritesAt (m : Memory) (a : VramAddr) (s : State) : Prop where
  life : s.life = .live
  second : s.second = false
  vram : s.vram = m
  addr : s.addr = a

/-- SETW leaves `a` to be written next (R102). -/
theorem run_setw {s : State} {a : VramAddr} {rest : List TransactionWord} (hlive : s.life = .live)
    (hsecond : s.second = false) (hp : s.pending = (ProgramItem.setw a).expand ++ rest) :
    ∃ t, run 2 s = .next t ∧ t.pending = rest ∧ WritesAt s.vram a t := by
  rw [expand_setw] at hp
  have hsetup := exec_wcWsetup_of_live (s := State.afterFirst { s with pending := rest } (a.extractLsb' 0 8)) hlive
    (a.extractLsb' 8 6)
  exact ⟨_, (run_pair hlive hsecond hp rfl).trans hsetup, rfl, hlive, rfl, rfl, setup_afterFirst _ a⟩

/-- A write stores the byte and moves on to the next address (R104). -/
theorem WritesAt.step_wd {m : Memory} {a : VramAddr} {b : Byte} {s : State} {rest : List TransactionWord}
    (h : WritesAt m a s) (hp : s.pending = encode (.wd b) :: rest) :
    ∃ t, step s = .next t ∧ t.pending = rest ∧ WritesAt (Memory.write m a b) (a + 1) t := by
  obtain ⟨hlive, -, rfl, rfl⟩ := h
  have hexec := exec_wd_of_live (s := { s with pending := rest }) hlive b
  exact ⟨_, (step_of_encode hp rfl).trans hexec, rfl, hlive, rfl, rfl, rfl⟩

/-- A run of `n` writes of one byte fills `n` addresses. -/
theorem WritesAt.run_replicate {m : Memory} {a : VramAddr} {b : Byte} {n : Nat} {s : State}
    {rest : List TransactionWord} (h : WritesAt m a s) (hp : s.pending = List.replicate n (encode (.wd b)) ++ rest) :
    ∃ t, run n s = .next t ∧ t.pending = rest ∧ WritesAt (Memory.fill m a b n) (a + BitVec.ofNat 14 n) t := by
  have hrun := run_words (P := fun done => WritesAt (Memory.fill m a b done.length) (a + BitVec.ofNat 14 done.length))
    (done := []) ?_ (by simpa [Memory.fill] using h) hp
  · rwa [List.nil_append, List.length_replicate] at hrun
  · intro w hw done rest' u hu hpu
    obtain rfl := List.eq_of_mem_replicate hw
    obtain ⟨t, ht, hpt, hwrites⟩ := hu.step_wd hpu
    rw [show (1 : VramAddr) = BitVec.ofNat 14 1 from rfl, latch_advance_add] at hwrites
    rw [List.length_append]
    exact ⟨t, ht, hpt, hwrites⟩

/-! ### SETREG -/

theorem run_setreg {s : State} {n : BitVec 3} {val : Byte} {rest : List TransactionWord} (hlive : s.life = .live)
    (hsecond : s.second = false) (hp : s.pending = (ProgramItem.setreg n val).expand ++ rest) :
    run 2 s = .next (State.afterSetreg { s with pending := rest } n val) :=
  setregWritesTheRegister s n val rest hlive hsecond hp

/-! ### The obligations -/

/-- Settles O18: the write rule of VRAM at the latch, read back there and left alone elsewhere. -/
theorem writeDataStoresAtTheLatch : Obligations.WriteDataStoresAtTheLatch := by
  intro b s hlive
  refine ⟨decode_data s.second b, _, exec_wd_of_live hlive b, ?_, fun hwf => Memory.read_write_same s.addr b hwf,
    fun a ha => Memory.read_write_other s.vram b ha⟩
  rw [latch_advance_one]

/-- Settles O21: the read sequence, with the address in plain arithmetic. -/
theorem readSequenceReturnsSuccessiveBytes : Obligations.ReadSequenceReturnsSuccessiveBytes := by
  intro s a ws rest hlive hsecond hws hp
  rw [List.append_assoc] at hp
  rw [← latch_advance]
  exact run_readSequence hlive hsecond hws hp

/-- Settles O23: after the setup and the write, VRAM is the old one with the byte at A; the two results are those of the
first and the second read after the read setup. -/
theorem writtenByteIsReadBack : Obligations.WrittenByteIsReadBack := by
  intro s a b rest hlive hsecond hwf hp
  simp only [List.append_assoc, List.cons_append, List.nil_append] at hp
  obtain ⟨s₁, hrun₁, hp₁, hwrites₁⟩ := run_setw hlive hsecond hp
  obtain ⟨s₂, hstep₂, hp₂, hwrites₂⟩ := hwrites₁.step_wd hp₁
  have hrun₂ : run 3 s = .next s₂ := (run_add_of_run hrun₁ 1).trans (run_succ_of_step hstep₂ 0)
  have hread : ∀ a', s₂.readVram a' = Memory.read (Memory.write s.vram a b) a' := fun a' => by
    rw [State.readVram, hwrites₂.vram]
  obtain ⟨t, hrun_t, -, ht⟩ := run_setr_rd (k := 0) hwrites₂.life hwrites₂.second hp₂
  obtain ⟨u, hrun_u, hp_u, hu⟩ := run_setr_rd (k := 1) hwrites₂.life hwrites₂.second hp₂
  refine ⟨⟨t, (run_add_of_run hrun₂ 3).trans hrun_t, ?_⟩, u, (run_add_of_run hrun₂ 4).trans hrun_u, hp_u, ?_⟩
  · rw [ht, BitVec.add_zero, hread, Memory.read_write_same a b hwf]
  · have hne : a + BitVec.ofNat 14 1 ≠ a := by simp
    rw [hu, hread, Memory.read_write_other s.vram b hne, latch_advance]
    rfl

/-- Settles O24: the writes fill VRAM, and read k is read k of the sequence after the read setup. -/
theorem fullMemoryRoundTrip : Obligations.FullMemoryRoundTrip := by
  intro s b rest hlive hsecond hwf hp
  simp only [List.append_assoc] at hp
  obtain ⟨s₁, hrun₁, hp₁, hwrites₁⟩ := run_setw hlive hsecond hp
  obtain ⟨s₂, hrun₂, hp₂, hwrites₂⟩ := hwrites₁.run_replicate hp₁
  have hrun : run (2 + 16384) s = .next s₂ := (run_add_of_run hrun₁ 16384).trans hrun₂
  have hfull : ∀ a, s₂.readVram a = b := fun a => by
    rw [State.readVram, hwrites₂.vram]
    exact Memory.read_fill_size 0 a b hwf
  refine ⟨⟨s₂, hrun, hwrites₂.addr, hfull⟩, fun k hk => ?_⟩
  rw [replicate_eq_append_cons hk, List.append_assoc, List.cons_append] at hp₂
  obtain ⟨t, hrun_t, -, ht⟩ := run_setr_rd hwrites₂.life hwrites₂.second hp₂
  refine ⟨t, ?_, by rw [ht, hfull]⟩
  calc run (2 + 16384 + 2 + (k + 1)) s
      = run (2 + 16384 + (k + 3)) s := by rw [Nat.add_assoc _ 2, Nat.add_left_comm 2]
    _ = run (k + 3) s₂ := run_add_of_run hrun _
    _ = .next t := hrun_t

/-- Settles O28: the second SETREG leaves the state as it is. -/
theorem setregTwiceIsSetregOnce : Obligations.SetregTwiceIsSetregOnce := by
  intro s n val rest hlive hsecond
  have honce := run_setreg (s := { s with pending := (ProgramItem.setreg n val).expand ++ rest }) hlive hsecond rfl
  have hfirst := run_setreg (s := { s with pending :=
    (ProgramItem.setreg n val).expand ++ (ProgramItem.setreg n val).expand ++ rest }) hlive hsecond (List.append_assoc ..)
  have hagain := run_setreg (s := State.afterSetreg { s with pending := (ProgramItem.setreg n val).expand ++ rest } n val)
    hlive hsecond rfl
  have hsame := State.afterSetreg_afterSetreg { s with pending := rest } n val
  exact ⟨_, honce, ((run_add_of_run hfirst 2).trans hagain).trans (congrArg Host.Outcome.next hsame)⟩

/-- Settles O15: a control byte in the first phase is `WC.FIRST`. -/
theorem firstControlByteSetsTheLowHalves : Obligations.FirstControlByteSetsTheLowHalves := by
  intro b s hlive
  exact ⟨decode_control false b, exec_wcFirst_of_live hlive b⟩

/-- Settles O16: the latch is one past the setup address, in plain arithmetic. -/
theorem readSetupPrefetchesAndIncrements : Obligations.ReadSetupPrefetchesAndIncrements := by
  intro a s hlive
  refine ⟨decode_encode (i := .wcRsetup a) rfl, ?_⟩
  rw [exec_wcRsetup_of_live hlive a, latch_advance_one, setupAddress_toNat]
  rfl

/-- Settles O17: a second byte of command code 1 is the write setup, which assembles the latch from the command word. -/
theorem writeSetupSetsTheLatchOnly : Obligations.WriteSetupSetsTheLatchOnly := by
  intro a s hlive
  exact ⟨decode_encode (i := .wcWsetup a) rfl, exec_wcWsetup_of_live hlive a⟩

/-- Settles O19: kind 0x4 is RD whatever its operand byte. -/
theorem readDataReturnsTheBuffer : Obligations.ReadDataReturnsTheBuffer := by
  intro s hlive
  refine ⟨decode_rd s.second, ?_⟩
  rw [exec_rd_of_live hlive, latch_advance_one]

/-- Settles O20, by the two values of STATUS_CLEARS_IRQ. -/
theorem readStatusClearsVblankAndLatchFlag : Obligations.ReadStatusClearsVblankAndLatchFlag := by
  intro s hlive
  have hirq : (if s.params.statusClearsIrq then false else s.irq) = (s.irq && !s.params.statusClearsIrq) := by
    cases s.params.statusClearsIrq <;> simp
  rw [exec_rs_of_live hlive, ← hirq]
  rfl

end Sys2Proof.Safety
end

section
/-! SUPPORT. The register file (41_register_file.md): the second spelling of the register write (R130), the derived fields in
plain arithmetic (R140 to R144), the next state of a tick, and the obligations O26, O30, O31 and O33. The last rests on
`RendersAlike`: the register bits with an effect (R139) are all the renderer reads of the register file. -/

namespace Sys2Proof.Machine

open Sys2Proof.Config

/-! ### The register write, command code 3 -/

/-- A register write, command code 3, has the effect of code 2 (R86, R103, R130). -/
theorem exec_wcReg3_of_live {s : State} (h : s.life = .live) (x r : BitVec 3) :
    exec (.wcReg3 x r) s = .next { s with
      reg := s.reg.set r.toNat (s.cmd.extractLsb' 0 8) r.isLt
      cmd := registerByte 0b11 x r ++ s.cmd.extractLsb' 0 8
      irq := s.irq || (decide (r = 1) && s.vblank && s.cmd.getLsbD 5)
      second := false
      result := .nothing } := by
  simp only [exec, execWcReg3, State.whenLive_of_live h, State.registerCommand_eq]
  rfl

/-! ### The derived fields in plain arithmetic (R140 to R144) -/

theorem State.modeIndex_lt (s : State) : s.modeIndex < 8 := by
  have h3 := Bool.toNat_le ((s.readReg 1).getLsbD 3)
  have h2 := Bool.toNat_le ((s.readReg 0).getLsbD 1)
  have h1 := Bool.toNat_le ((s.readReg 1).getLsbD 4)
  rw [State.modeIndex_eq]
  omega

theorem State.displayEnable_toNat (s : State) : s.displayEnable.toNat = s.regNat 1 / 64 % 2 :=
  Nat.toNat_testBit (s.regNat 1) 6

theorem State.interruptEnable_toNat (s : State) : s.interruptEnable.toNat = s.regNat 1 / 32 % 2 :=
  Nat.toNat_testBit (s.regNat 1) 5

theorem State.textColor_eq (s : State) : s.textColor = s.regNat 7 / 16 := Nat.shiftRight_eq_div_pow (s.regNat 7) 4

theorem State.backdropColor_eq (s : State) : s.backdropColor = s.regNat 7 % 16 :=
  Nat.and_two_pow_sub_one_eq_mod (s.regNat 7) 4

/-- A field of the `k` low bits of a register, moved up by `j`: a multiple of `2 ^ j`. -/
theorem lowBits_shiftLeft (r k j : Nat) : (r &&& (2 ^ k - 1)) <<< j = 2 ^ j * (r % 2 ^ k) := by
  rw [Nat.and_two_pow_sub_one_eq_mod, Nat.shiftLeft_eq, Nat.mul_comm]

theorem State.nameBase_eq (s : State) : s.nameBase = 1024 * (s.regNat 2 % 16) := lowBits_shiftLeft (s.regNat 2) 4 10

theorem State.patternBase_eq (s : State) : s.patternBase = 2048 * (s.regNat 4 % 8) := lowBits_shiftLeft (s.regNat 4) 3 11

theorem State.colorBase_eq (s : State) : s.colorBase = 64 * s.regNat 3 := by
  rw [State.colorBase, Nat.shiftLeft_eq, Nat.mul_comm]

/-! ### The next state of a tick on a live device -/

theorem State.enterVblank_eq (s : State) :
    s.enterVblank = { s with vblank := true, irq := s.irq || s.interruptEnable } := by
  rw [← State.enterVblank_irq]
  unfold State.enterVblank
  dsimp only
  split <;> rfl

theorem State.renderLine_eq (s : State) (v : Nat) :
    s.renderLine v = { s with fb := (s.renderLine v).fb, lbuf := Line.black } := by
  unfold State.renderLine State.drawOverlay
  split <;> rfl

/-- TICK: vblank and the interrupt at the boundary (R191), a render where the line is visible (R192), and the counter (R193).
An invisible line is neither rendered nor cleared. -/
theorem exec_tick_of_live {s : State} (h : s.life = .live) :
    exec .tick s = .next { s with
      vblank := s.vblank || decide (s.v = vblankLine)
      irq := s.irq || (decide (s.v = vblankLine) && s.interruptEnable)
      fb := if s.v < frameHeight then (s.renderLine s.v).fb else s.fb
      lbuf := if s.v < frameHeight then Line.black else s.lbuf
      v := (s.v + 1) % scanlines
      result := .nothing } := by
  simp only [exec, execTick, State.whenLive_of_live h, State.finish_eq]
  by_cases hb : s.v = vblankLine
  · have hv : ¬ s.v < frameHeight := by rw [hb]; decide
    simp [hb, State.enterVblank_eq, State.nextLine]
  · by_cases hv : s.v < frameHeight
    · rw [if_neg hb, if_pos hv, State.renderLine_eq]
      simp [hb, hv, State.nextLine]
    · simp [hb, hv, State.nextLine]

/-! ### Bits on which two bytes agree -/

/-- Two bytes that agree on the field of `n` bits from bit `k` on agree on each of its bits. -/
theorem getLsbD_of_field_eq {b c : Byte} {k n i : Nat} (h : b.extractLsb' k n = c.extractLsb' k n) (hi : i < n) :
    b.getLsbD (k + i) = c.getLsbD (k + i) := by
  simpa [BitVec.getLsbD_extractLsb', hi] using congrArg (·.getLsbD i) h

/-- Two bytes that agree on their `n` low bits agree under every mask of these bits. -/
theorem toNat_and_of_lowBits_eq {b c : Byte} {n mask : Nat} (h : b.extractLsb' 0 n = c.extractLsb' 0 n)
    (hmask : mask < 2 ^ n) : b.toNat &&& mask = c.toNat &&& mask := by
  have hmod : b.toNat % 2 ^ n = c.toNat % 2 ^ n := by simpa using congrArg BitVec.toNat h
  have hlow : ∀ x, x &&& mask = x % 2 ^ n &&& mask := fun x => by
    rw [← Nat.mod_eq_of_lt (Nat.and_lt_two_pow x hmask), Nat.and_mod_two_pow, Nat.mod_eq_of_lt hmask]
  rw [hlow, hmod, ← hlow]

/-! ### What the renderer reads -/

/-- Two states agree on all a render and the arming at the vertical blank read: VRAM, the parameters, and the register
bits with an effect (R131 to R136, R139). -/
structure RendersAlike (s t : State) : Prop where
  vram : s.vram = t.vram
  params : s.params = t.params
  reg0 : (s.readReg 0).getLsbD 1 = (t.readReg 0).getLsbD 1
  reg1 : (s.readReg 1).extractLsb' 3 4 = (t.readReg 1).extractLsb' 3 4
  reg2 : (s.readReg 2).extractLsb' 0 4 = (t.readReg 2).extractLsb' 0 4
  reg3 : s.readReg 3 = t.readReg 3
  reg4 : (s.readReg 4).extractLsb' 0 3 = (t.readReg 4).extractLsb' 0 3
  reg7 : s.readReg 7 = t.readReg 7

namespace RendersAlike

variable {s t : State}

/-! The enables, the mode and the colours -/

theorem displayEnable_eq (h : RendersAlike s t) : s.displayEnable = t.displayEnable :=
  getLsbD_of_field_eq (i := 3) h.reg1 (by decide)

theorem interruptEnable_eq (h : RendersAlike s t) : s.interruptEnable = t.interruptEnable :=
  getLsbD_of_field_eq (i := 2) h.reg1 (by decide)

theorem modeIndex_eq (h : RendersAlike s t) : s.modeIndex = t.modeIndex := by
  have hbit3 : (s.readReg 1).getLsbD 3 = (t.readReg 1).getLsbD 3 := getLsbD_of_field_eq (i := 0) h.reg1 (by decide)
  have hbit4 : (s.readReg 1).getLsbD 4 = (t.readReg 1).getLsbD 4 := getLsbD_of_field_eq (i := 1) h.reg1 (by decide)
  rw [State.modeIndex_eq, State.modeIndex_eq, hbit3, hbit4, h.reg0]

theorem textColor_eq (h : RendersAlike s t) : s.textColor = t.textColor :=
  congrArg (fun r : Byte => r.toNat >>> 4) h.reg7

theorem backdropColor_eq (h : RendersAlike s t) : s.backdropColor = t.backdropColor :=
  congrArg (fun r : Byte => r.toNat &&& 0x0F) h.reg7

theorem textIndex_eq (h : RendersAlike s t) (pattern p : Nat) : s.textIndex pattern p = t.textIndex pattern p := by
  simp only [State.textIndex, h.textColor_eq, h.backdropColor_eq]

theorem backRgb_eq (h : RendersAlike s t) : s.backRgb = t.backRgb := by
  rw [State.backRgb, State.backRgb, h.backdropColor_eq, h.params]

theorem colour_eq (h : RendersAlike s t) (i : Nat) : s.colour i = t.colour i := by
  simp only [State.colour, h.backRgb_eq]

/-! VRAM and the table addresses -/

theorem fetch_eq (h : RendersAlike s t) (a : Nat) : s.fetch a = t.fetch a := by
  rw [State.fetch, State.fetch, State.readVram_congr h.vram]

theorem nameBase_eq (h : RendersAlike s t) : s.nameBase = t.nameBase :=
  congrArg (· <<< 10) (toNat_and_of_lowBits_eq h.reg2 (by decide))

theorem patternBase_eq (h : RendersAlike s t) : s.patternBase = t.patternBase :=
  congrArg (· <<< 11) (toNat_and_of_lowBits_eq h.reg4 (by decide))

theorem colorAddr_eq (h : RendersAlike s t) (name : Nat) : s.colorAddr name = t.colorAddr name := by
  simp only [State.colorAddr, State.colorBase, State.regNat, h.reg3]

theorem gridNameAddr_eq (h : RendersAlike s t) (v c : Nat) : s.gridNameAddr v c = t.gridNameAddr v c := by
  simp only [State.gridNameAddr, h.nameBase_eq]

theorem textNameAddr_eq (h : RendersAlike s t) (v c : Nat) : s.textNameAddr v c = t.textNameAddr v c := by
  simp only [State.textNameAddr, h.nameBase_eq]

theorem patternAddr_eq (h : RendersAlike s t) (v name : Nat) : s.patternAddr v name = t.patternAddr v name := by
  simp only [State.patternAddr, h.patternBase_eq]

theorem g2PatternAddr_eq (h : RendersAlike s t) (off : Nat) : s.g2PatternAddr off = t.g2PatternAddr off := by
  have hbase : s.regNat 4 &&& 0x04 = t.regNat 4 &&& 0x04 := toNat_and_of_lowBits_eq h.reg4 (by decide)
  have hmask : s.regNat 4 &&& 0x03 = t.regNat 4 &&& 0x03 := toNat_and_of_lowBits_eq h.reg4 (by decide)
  rw [State.g2PatternAddr, State.g2PatternAddr, hbase, hmask]

theorem g2ColorAddr_eq (h : RendersAlike s t) (off : Nat) : s.g2ColorAddr off = t.g2ColorAddr off := by
  simp only [State.g2ColorAddr, State.regNat, h.reg3]

/-! The cells, the overlay and the render -/

theorem cellGraphicsI_eq (h : RendersAlike s t) (v : Nat) : s.cellGraphicsI v = t.cellGraphicsI v := by
  funext l c
  simp only [State.cellGraphicsI, h.fetch_eq, h.gridNameAddr_eq, h.patternAddr_eq, h.colorAddr_eq, h.colour_eq]

theorem cellText_eq (h : RendersAlike s t) (v : Nat) : s.cellText v = t.cellText v := by
  funext l c
  simp only [State.cellText, h.fetch_eq, h.textNameAddr_eq, h.patternAddr_eq, h.textIndex_eq, h.colour_eq]

theorem cellGraphicsII_eq (h : RendersAlike s t) (v : Nat) : s.cellGraphicsII v = t.cellGraphicsII v := by
  funext l c
  simp only [State.cellGraphicsII, h.fetch_eq, h.gridNameAddr_eq, h.g2PatternAddr_eq, h.g2ColorAddr_eq, h.colour_eq]

theorem overlay_eq (h : RendersAlike s t) (v : Nat) (l : Line) : s.overlay v l = t.overlay v l := by
  simp only [State.overlay, State.overlayGraphicsII, h.modeIndex_eq, h.params, h.cellGraphicsI_eq, h.cellText_eq,
    h.cellGraphicsII_eq]

/-- The backdrop fill touches nothing the renderer reads. -/
theorem fillBackdrop (h : RendersAlike s t) : RendersAlike s.fillBackdrop t.fillBackdrop :=
  ⟨h.vram, h.params, h.reg0, h.reg1, h.reg2, h.reg3, h.reg4, h.reg7⟩

/-- The line that is committed. -/
theorem drawnLine_eq (h : RendersAlike s t) (v : Nat) :
    (s.fillBackdrop.drawOverlay v).lbuf = (t.fillBackdrop.drawOverlay v).lbuf := by
  simp only [State.drawOverlay_lbuf, State.fillBackdrop_lbuf, h.fillBackdrop.displayEnable_eq,
    h.fillBackdrop.overlay_eq, h.backRgb_eq]

theorem renderLine_fb_eq (h : RendersAlike s t) (hfb : s.fb = t.fb) (v : Nat) :
    (s.renderLine v).fb = (t.renderLine v).fb := by
  rw [State.renderLine_fb, State.renderLine_fb, hfb, h.drawnLine_eq]

end RendersAlike

end Sys2Proof.Machine

namespace Sys2Proof.Safety

open Sys2Proof.Machine

/-- A transaction but INIT completes on a live device only (R213). -/
theorem live_of_exec_next {i : Instr} {s t : State} (hi : i ≠ .init) (h : exec i s = .next t) : s.life = .live := by
  obtain ⟨f, hf, -⟩ := exec_eq_whenLive hi
  rw [hf, State.whenLive_next_iff] at h
  obtain ⟨hlive, -⟩ := h
  exact hlive

/-! ### The obligations -/

/-- Settles O26: both spellings run `registerCommand`, on second bytes that differ in the command code alone. -/
theorem registerWriteStoresTheFirstByte : Obligations.RegisterWriteStoresTheFirstByte := by
  intro x r s hlive
  exact ⟨exec_wcReg_of_live hlive x r, exec_wcReg3_of_live hlive x r⟩

/-- Settles O30: each derived field in plain arithmetic. -/
theorem modeIndexEnablesAndColours : Obligations.ModeIndexEnablesAndColours := by
  intro s
  exact ⟨s.modeIndex_eq, s.modeIndex_lt, ⟨s.displayEnable_toNat, s.interruptEnable_toNat⟩, s.textColor_eq,
    s.backdropColor_eq⟩

/-- Settles O31: each base in plain arithmetic, and its bound. -/
theorem tableBasesAreAlignedAndBounded : Obligations.TableBasesAreAlignedAndBounded := by
  intro s
  exact ⟨s.nameBase_eq, s.nameBase_le, s.colorBase_eq, s.colorBase_le, s.patternBase_eq, s.patternBase_le⟩

/-- Settles O33: of the register file a tick reads IE and, to render, the bits `RendersAlike` compares, and it hands the
file on as it is. -/
theorem inertRegisterBitsDoNotShow : Obligations.InertRegisterBitsDoNotShow := by
  intro s t reg' s' h0 h1 h2 h3 h4 h7 htick
  have halike : RendersAlike s s' := ⟨rfl, rfl, h0, h1, h2, h3, h4, h7⟩
  have hlive : s.life = .live := live_of_exec_next (by decide) htick
  rw [exec_tick_of_live hlive] at htick
  cases htick
  rw [exec_tick_of_live (s := s') hlive, halike.interruptEnable_eq, halike.renderLine_fb_eq rfl]

end Sys2Proof.Safety
end

section
/-! SUPPORT. The renderer (42_renderer.md): the committed line against the closed form of R182, what the closed form reads,
its indices in plain arithmetic (R162 to R176), runs of visible ticks, and the obligations O34 to O41, O43 and O44. -/

namespace Sys2Proof.Machine

open Sys2Proof.Config

/-! ### The overlay of each mode (R153, R170, R178) -/

theorem State.overlay_of_mode_zero {s : State} (h : s.modeIndex = 0) (v : Nat) (l : Line) :
    s.overlay v l = l.drawCells 32 (s.cellGraphicsI v) := by
  rw [State.overlay, h, modeOf]

theorem State.overlay_of_mode_one {s : State} (h : s.modeIndex = 1) (v : Nat) (l : Line) :
    s.overlay v l = l.drawCells 40 (s.cellText v) := by
  rw [State.overlay, h, modeOf]

theorem State.overlay_of_mode_two {s : State} (h : s.modeIndex = 2) (v : Nat) (l : Line) :
    s.overlay v l = s.overlayGraphicsII v l := by
  rw [State.overlay, h, modeOf]

theorem modeOf_of_three_le {m : Nat} (h : 3 ≤ m) : modeOf m = .multicolor ∨ modeOf m = .undocumented := by
  unfold modeOf
  split
  · omega
  · omega
  · omega
  · exact .inl rfl
  · exact .inr rfl

theorem State.overlay_of_three_le {s : State} (h : 3 ≤ s.modeIndex) (v : Nat) (l : Line) : s.overlay v l = l := by
  unfold State.overlay
  obtain hm | hm := modeOf_of_three_le h <;> rw [hm]

theorem State.overlayGraphicsII_of_datasheet {s : State} (h : s.params.gfx2Model = .datasheet) (v : Nat) (l : Line) :
    s.overlayGraphicsII v l = l.drawCells 32 (s.cellGraphicsII v) := by
  rw [State.overlayGraphicsII, h]

theorem State.overlayGraphicsII_of_stub {s : State} (h : s.params.gfx2Model = .backdropStub) (v : Nat) (l : Line) :
    s.overlayGraphicsII v l = l := by
  rw [State.overlayGraphicsII, h]

/-! ### The committed line and a visible tick -/

/-- The line a render commits: the backdrop, and the overlay on it if the display is enabled (R160, R161). -/
theorem State.drawnLine_eq (s : State) (v : Nat) :
    (s.fillBackdrop.drawOverlay v).lbuf =
      if s.displayEnable then s.overlay v (Line.filled s.backRgb) else Line.filled s.backRgb := by
  have halike : RendersAlike s.fillBackdrop s := ⟨rfl, rfl, rfl, rfl, rfl, rfl, rfl, rfl⟩
  rw [State.drawOverlay_lbuf, State.fillBackdrop_lbuf, halike.displayEnable_eq, halike.overlay_eq]

/-- A tick on a visible line renders it and counts (R190, R192, R193). -/
theorem exec_visibleTick_of_live {s : State} (h : s.life = .live) (hv : s.v < frameHeight) :
    exec .tick s = .next { s with
      fb := (s.renderLine s.v).fb
      lbuf := Line.black
      v := s.v + 1
      result := .nothing } := by
  have hb : s.v ≠ vblankLine := Nat.ne_of_lt hv
  have hcount : (s.v + 1) % scanlines = s.v + 1 := Nat.mod_eq_of_lt (Nat.lt_trans (Nat.succ_lt_succ hv) (by decide))
  rw [exec_tick_of_live h, hcount]
  simp [hv, hb]

/-! ### The cell and the place in it, of a line and of a column -/

theorem shiftRight_three (n : Nat) : n >>> 3 = n / 8 := Nat.shiftRight_eq_div_pow n 3

theorem and_seven (n : Nat) : n &&& 7 = n % 8 := Nat.and_two_pow_sub_one_eq_mod n 3

/-! ### The Graphics II table addresses in plain arithmetic (R174 to R176) -/

/-- Bank, name and row of a table offset do not overlap. -/
theorem g2Offset_eq (v : Nat) {name : Nat} (hname : name < 256) :
    g2Offset v name = 2048 * (v / 64) + 8 * name + v % 8 := by
  have hbank : v >>> 6 = v / 64 := Nat.shiftRight_eq_div_pow v 6
  rw [g2Offset, and_seven, hbank, Nat.or_assoc, ← Nat.shiftLeft_add_eq_or_of_lt (show v % 8 < 2 ^ 3 by omega),
    Nat.shiftLeft_eq name, ← Nat.shiftLeft_add_eq_or_of_lt (by omega), Nat.shiftLeft_eq]
  omega

/-- The one base bit of both address maps lies above every table offset. -/
theorem base_or_and_eq {base off : Nat} (bit mask : Nat) (hbase : base = 0x2000 * bit) (hoff : off ≤ 6143) :
    base ||| (off &&& mask) = 0x2000 * bit + (off &&& mask) := by
  have hlow : off &&& mask < 2 ^ 13 := Nat.lt_of_le_of_lt Nat.and_le_left (by omega)
  rw [hbase]
  exact (Nat.two_pow_add_eq_or_of_lt hlow bit).symm

/-- The address mask of a register field: the field over low bits that are all ones. -/
theorem field_or_ones (r k j : Nat) :
    ((r &&& (2 ^ k - 1)) <<< j) ||| (2 ^ j - 1) = 2 ^ j * (r % 2 ^ k) + (2 ^ j - 1) := by
  rw [lowBits_shiftLeft]
  exact (Nat.two_pow_add_eq_or_of_lt (Nat.sub_lt (Nat.two_pow_pos j) Nat.one_pos) _).symm

/-- A single bit of a register, moved up. -/
theorem bit_shiftLeft (r k j : Nat) : (r &&& 2 ^ k) <<< j = 2 ^ (k + j) * (r / 2 ^ k % 2) := by
  rw [Nat.and_two_pow, Nat.toNat_testBit, Nat.shiftLeft_eq, pow_add]
  ring

theorem State.g2PatternAddr_eq (s : State) {off : Nat} (hoff : off ≤ 6143) :
    s.g2PatternAddr off = 0x2000 * (s.regNat 4 / 4 % 2) + (off &&& (2048 * (s.regNat 4 % 4) + 0x07FF)) := by
  have hmask : ((s.regNat 4 &&& 0x03) <<< 11) ||| 0x07FF = 2048 * (s.regNat 4 % 4) + 0x07FF :=
    field_or_ones (s.regNat 4) 2 11
  rw [State.g2PatternAddr, hmask]
  exact base_or_and_eq _ _ (bit_shiftLeft (s.regNat 4) 2 11) hoff

theorem State.g2ColorAddr_eq (s : State) {off : Nat} (hoff : off ≤ 6143) :
    s.g2ColorAddr off = 0x2000 * (s.regNat 3 / 128) + (off &&& (64 * (s.regNat 3 % 128) + 0x003F)) := by
  have hmask : ((s.regNat 3 &&& 0x7F) <<< 6) ||| 0x003F = 64 * (s.regNat 3 % 128) + 0x003F :=
    field_or_ones (s.regNat 3) 7 6
  have hbit : s.regNat 3 / 128 % 2 = s.regNat 3 / 128 := Nat.mod_eq_of_lt (by have := s.regNat_lt 3; omega)
  rw [State.g2ColorAddr, hmask, ← hbit]
  exact base_or_and_eq _ _ (bit_shiftLeft (s.regNat 3) 7 6) hoff

/-! ### The other table addresses in plain arithmetic (R163, R166) -/

theorem State.gridNameAddr_eq (s : State) (v c : Nat) :
    s.gridNameAddr v c = 1024 * (s.regNat 2 % 16) + 32 * (v / 8) + c := by
  rw [State.gridNameAddr, State.nameBase_eq, shiftRight_three, Nat.mul_comm (v / 8)]

theorem State.textNameAddr_eq (s : State) (v c : Nat) :
    s.textNameAddr v c = 1024 * (s.regNat 2 % 16) + 40 * (v / 8) + c := by
  rw [State.textNameAddr, State.nameBase_eq, shiftRight_three, Nat.mul_comm (v / 8)]

theorem State.patternAddr_eq (s : State) (v name : Nat) :
    s.patternAddr v name = 2048 * (s.regNat 4 % 8) + 8 * name + v % 8 := by
  rw [State.patternAddr, State.patternBase_eq, and_seven, Nat.mul_comm name]

theorem State.colorAddr_eq (s : State) (name : Nat) : s.colorAddr name = 64 * s.regNat 3 + name / 8 := by
  rw [State.colorAddr, State.colorBase_eq, shiftRight_three]

end Sys2Proof.Machine

namespace Sys2Proof.Safety

open Sys2Proof.Machine Sys2Proof.Config

/-! ### The closed form of a pixel, mode by mode (R182) -/

theorem pixel_of_disabled {s : State} (h : s.displayEnable = false) (v x : Nat) : pixel s v x = s.backRgb := by
  rw [pixel, if_pos h]

theorem pixel_graphicsI {s : State} (hd : s.displayEnable = true) (hm : s.modeIndex = 0) (v x : Nat) :
    pixel s v x = s.colour (indexGraphicsI s v (x / 8) (x % 8)) := by
  simp only [pixel, hd, hm, shiftRight_three, and_seven, Bool.true_eq_false, if_false]

theorem pixel_text {s : State} (hd : s.displayEnable = true) (hm : s.modeIndex = 1) (v x : Nat) :
    pixel s v x = if x < 8 ∨ x ≥ 248 then s.backRgb else s.colour (indexText s v ((x - 8) / 6) ((x - 8) % 6)) := by
  simp only [pixel, hd, hm, Bool.true_eq_false, if_false]

theorem pixel_graphicsII {s : State} (hd : s.displayEnable = true) (hm : s.modeIndex = 2)
    (hg : s.params.gfx2Model = .datasheet) (v x : Nat) :
    pixel s v x = s.colour (indexGraphicsII s v (x / 8) (x % 8)) := by
  simp only [pixel, hd, hm, hg, shiftRight_three, and_seven, Bool.true_eq_false, if_false]

theorem pixel_graphicsII_stub {s : State} (hm : s.modeIndex = 2) (hg : s.params.gfx2Model = .backdropStub) (v x : Nat) :
    pixel s v x = s.backRgb := by
  simp only [pixel, hm, hg, ite_self]

theorem pixel_of_three_le {s : State} (hm : 3 ≤ s.modeIndex) (v x : Nat) : pixel s v x = s.backRgb := by
  obtain ⟨m, hm⟩ := Nat.exists_eq_add_of_le' hm
  simp only [pixel, hm, ite_self]

/-! ### The overlay draws the closed form -/

/-- A row of 32 cells of eight pixels covers the line. -/
theorem getElem_tiles {px : Nat → Nat → RGB} {cell : Line → Nat → Line}
    (hcell : ∀ l c, cell l c = l.drawCell (c * 8) 8 (px c)) (l : Line) (x : Nat) (hx : x < lineWidth) :
    (l.drawCells 32 cell)[x]'hx = px (x / 8) (x % 8) := by
  rw [Line.getElem_drawCells (w := 8) (off := 0) (by decide) hcell, if_pos ⟨Nat.zero_le x, hx⟩, Nat.sub_zero]

/-- Forty cells of six pixels between two margins, in which the line stays as it was (R165, R168). -/
theorem getElem_glyphs {px : Nat → Nat → RGB} {cell : Line → Nat → Line}
    (hcell : ∀ l c, cell l c = l.drawCell (c * 6 + 8) 6 (px c)) (l : Line) (x : Nat) (hx : x < lineWidth) :
    (l.drawCells 40 cell)[x]'hx = if x < 8 ∨ x ≥ 248 then l[x]'hx else px ((x - 8) / 6) ((x - 8) % 6) := by
  rw [Line.getElem_drawCells (by decide) hcell]
  by_cases hmargin : x < 8 ∨ x ≥ 248
  · rw [if_pos hmargin, if_neg (by omega)]
  · rw [if_neg hmargin, if_pos (by omega)]

/-- Column by column, the overlay on a line of backdrop is the closed form, mode by mode. -/
theorem getElem_overlay {s : State} (hd : s.displayEnable = true) (v x : Nat) (hx : x < lineWidth) :
    (s.overlay v (Line.filled s.backRgb))[x]'hx = pixel s v x := by
  obtain hm | hm | hm | hm : s.modeIndex = 0 ∨ s.modeIndex = 1 ∨ s.modeIndex = 2 ∨ 3 ≤ s.modeIndex := by omega
  · rw [State.overlay_of_mode_zero hm, pixel_graphicsI hd hm]
    exact getElem_tiles (px := fun c p => s.colour (indexGraphicsI s v c p)) (fun _ _ => rfl) _ x hx
  · rw [State.overlay_of_mode_one hm, pixel_text hd hm]
    have hglyphs := getElem_glyphs (px := fun c p => s.colour (indexText s v c p)) (cell := s.cellText v) (fun _ _ => rfl)
      (Line.filled s.backRgb) x hx
    rwa [Line.getElem_filled] at hglyphs
  · rw [State.overlay_of_mode_two hm]
    cases hg : s.params.gfx2Model with
    | datasheet =>
      rw [State.overlayGraphicsII_of_datasheet hg, pixel_graphicsII hd hm hg]
      exact getElem_tiles (px := fun c p => s.colour (indexGraphicsII s v c p)) (fun _ _ => rfl) _ x hx
    | backdropStub =>
      rw [State.overlayGraphicsII_of_stub hg, pixel_graphicsII_stub hm hg, Line.getElem_filled]
  · rw [State.overlay_of_three_le hm, pixel_of_three_le hm, Line.getElem_filled]

theorem getElem_drawnLine (s : State) (v x : Nat) (hx : x < lineWidth) :
    (s.fillBackdrop.drawOverlay v).lbuf[x]'hx = pixel s v x := by
  rw [State.drawnLine_eq]
  cases hd : s.displayEnable with
  | false => exact (Line.getElem_filled s.backRgb x hx).trans (pixel_of_disabled hd v x).symm
  | true => exact getElem_overlay hd v x hx

/-- Row `v` after a render of line `v` is the closed form (R182). -/
theorem renderLine_pixel (s : State) {v x : Nat} (hv : v < frameHeight) (hx : x < lineWidth) :
    ((s.renderLine v).fb[v]'hv)[x]'hx = pixel s v x :=
  (congrArg (fun l : Line => l[x]'hx) (State.renderLine_row s v hv)).trans (getElem_drawnLine s v x hx)

/-! ### What the closed form reads (R181) -/

/-- The closed form reads VRAM byte by byte, the registers, TRANSPARENT_RGB and GFX2_MODEL. -/
theorem pixel_congr {s₁ s₂ : State} (hvram : ∀ a, s₁.readVram a = s₂.readVram a)
    (hreg : ∀ n, s₁.readReg n = s₂.readReg n) (hrgb : s₁.params.transparentRgb = s₂.params.transparentRgb)
    (hgfx : s₁.params.gfx2Model = s₂.params.gfx2Model) (v x : Nat) : pixel s₁ v x = pixel s₂ v x := by
  have hnat : ∀ n, s₁.regNat n = s₂.regNat n := fun n => congrArg BitVec.toNat (hreg n)
  have hfetch : ∀ a, s₁.fetch a = s₂.fetch a := fun a => congrArg BitVec.toNat (hvram _)
  have hbackdrop : s₁.backdropColor = s₂.backdropColor := by rw [State.backdropColor, State.backdropColor, hnat]
  have hback : s₁.backRgb = s₂.backRgb := by rw [State.backRgb, State.backRgb, hbackdrop, hrgb]
  have hcolour : ∀ i, s₁.colour i = s₂.colour i := fun i => by simp only [State.colour, hback]
  have hI : ∀ c p, indexGraphicsI s₁ v c p = indexGraphicsI s₂ v c p := fun c p => by
    simp only [indexGraphicsI, State.gridNameAddr_eq, State.patternAddr_eq, State.colorAddr_eq, hnat, hfetch]
  have hText : ∀ c p, indexText s₁ v c p = indexText s₂ v c p := fun c p => by
    simp only [indexText, State.textIndex, State.textNameAddr_eq, State.patternAddr_eq, State.textColor, hbackdrop,
      hnat, hfetch]
  have hII : ∀ c p, indexGraphicsII s₁ v c p = indexGraphicsII s₂ v c p := fun c p => by
    simp only [indexGraphicsII, State.gridNameAddr_eq, State.g2PatternAddr, State.g2ColorAddr, hnat, hfetch]
  simp only [pixel, State.displayEnable, State.modeIndex_eq, hreg, hgfx, hback, hcolour, hI, hText, hII]

/-! ### The colour of an index in plain arithmetic (R152) -/

theorem backRgb_eq_shown (s : State) : s.backRgb = shown s 0 := by
  rw [State.backRgb, State.backdropColor_eq]
  rfl

theorem colour_eq_shown (s : State) (i : Nat) : s.colour i = shown s (i % 16) := by
  have hmask : i &&& 0x0F = i % 16 := Nat.and_two_pow_sub_one_eq_mod i 4
  simp only [State.colour, hmask, backRgb_eq_shown]
  by_cases hi : i % 16 = 0
  · rw [if_neg (not_not.mpr hi), hi]
  · rw [if_pos hi, shown, if_pos hi]

/-- An index of four bits is shown as it is. -/
theorem colour_of_lt {i : Nat} (hi : i < 16) (s : State) : s.colour i = shown s i := by
  rw [colour_eq_shown, Nat.mod_eq_of_lt hi]

theorem fetch_eq_byteN (s : State) (a : Nat) : s.fetch a = byteN s a := rfl

theorem byteN_lt (s : State) (a : Nat) : byteN s a < 256 := (s.readVram (BitVec.ofNat 14 a)).isLt

/-- A tile's pixel shows the high digit of the colour byte where the pattern is set, and the low digit where it is clear
(R162, R174). -/
theorem colour_tileIndex (s : State) (pattern p : Nat) {color : Nat} (hcolor : color < 256) :
    (pixelSet pattern p → s.colour (tileIndex pattern color p) = shown s (color / 16)) ∧
    (¬ pixelSet pattern p → s.colour (tileIndex pattern color p) = shown s (color % 16)) := by
  rw [tileIndex_eq]
  exact ⟨fun h => by rw [if_pos h, colour_of_lt (by omega)], fun h => by rw [if_neg h, colour_of_lt (by omega)]⟩

/-- A Text pixel is a tile's pixel with R7 for its colour byte (R165). -/
theorem textIndex_eq_tileIndex (s : State) (pattern p : Nat) :
    s.textIndex pattern p = tileIndex pattern (s.regNat 7) p := rfl

/-! ### Runs of visible ticks -/

/-- A live device `t` that has rendered the lines below `k` of the picture `s` shows, and goes on to line `k`. -/
structure Drawn (s : State) (k : Nat) (t : State) : Prop where
  life : t.life = .live
  v : t.v = k
  vram : t.vram = s.vram
  reg : t.reg = s.reg
  params : t.params = s.params
  rows : ∀ y (hy : y < frameHeight) x (hx : x < lineWidth), y < k → (t.fb[y]'hy)[x]'hx = pixel s y x

/-- A tick draws one more row, in the picture of the start (R182). -/
theorem Drawn.step_tick {s t : State} {k : Nat} {rest : List TransactionWord} (h : Drawn s k t) (hk : k < frameHeight)
    (hp : t.pending = encode .tick :: rest) : ∃ u, step t = .next u ∧ u.pending = rest ∧ Drawn s (k + 1) u := by
  obtain ⟨hlive, rfl, hvram, hreg, hparams, hrows⟩ := h
  have htick := exec_visibleTick_of_live (s := { t with pending := rest }) hlive hk
  refine ⟨_, (step_of_encode hp rfl).trans htick, rfl, hlive, rfl, hvram, hreg, hparams, fun y hy x hx hyk => ?_⟩
  obtain hlt | rfl := Nat.lt_succ_iff_lt_or_eq.mp hyk
  · have hother := State.renderLine_row_other { t with pending := rest } hy (Nat.ne_of_lt hlt)
    exact (congrArg (fun l : Line => l[x]'hx) hother).trans (hrows y hy x hx hlt)
  · have hpixel := pixel_congr (s₁ := { t with pending := rest }) (s₂ := s) (State.readVram_congr hvram)
      (State.readReg_congr hreg) (congrArg (·.transparentRgb) hparams) (congrArg (·.gfx2Model) hparams) t.v x
    exact (renderLine_pixel _ hk hx).trans hpixel

/-- Ticks in a row draw the rows from line `k` on. -/
theorem Drawn.run_ticks {s t : State} {k n : Nat} {rest : List TransactionWord} (h : Drawn s k t)
    (hn : k + n ≤ frameHeight) (hp : t.pending = List.replicate n (encode .tick) ++ rest) :
    ∃ u, run n t = .next u ∧ u.pending = rest ∧ Drawn s (k + n) u := by
  induction n generalizing k t with
  | zero => exact ⟨t, rfl, hp, h⟩
  | succ n ih =>
    obtain ⟨u, hstep, hpu, hu⟩ := h.step_tick (Nat.lt_of_lt_of_le (Nat.lt_add_of_pos_right n.succ_pos) hn) hp
    obtain ⟨w, hrun, hpw, hw⟩ := ih hu (by omega) hpu
    rw [Nat.add_assoc, Nat.add_comm 1] at hw
    exact ⟨w, (run_succ_of_step hstep n).trans hrun, hpw, hw⟩

/-! ### The obligations -/

/-- Settles O36: the tick renders line v, whose row is the closed form, and counts. -/
theorem visibleTickRendersTheClosedForm : Obligations.VisibleTickRendersTheClosedForm := by
  intro s hv hlive
  exact ⟨_, exec_visibleTick_of_live hlive hv, rfl, fun x hx => renderLine_pixel s hv hx,
    fun y hy hne => State.renderLine_row_other s hy hne⟩

/-- Settles O35: the mask of the model is the remainder modulo 16. -/
theorem indexZeroShowsTheBackdrop : Obligations.IndexZeroShowsTheBackdrop := by
  intro s i
  exact ⟨colour_eq_shown s i, backRgb_eq_shown s⟩

/-- Settles O43: two states that agree on what the closed form reads have the same closed form of row v. -/
theorem renderReadsOnlyVramAndRegisters : Obligations.RenderReadsOnlyVramAndRegisters := by
  refine ⟨State.renderLine_eq, fun s v y hy hne => State.renderLine_row_other s hy hne, ?_⟩
  intro s₁ s₂ v hv hvram hreg hrgb hgfx
  refine Vector.ext fun x hx => ?_
  calc ((s₁.renderLine v).fb[v]'hv)[x]'hx
      = pixel s₁ v x := renderLine_pixel s₁ hv hx
    _ = pixel s₂ v x := pixel_congr hvram hreg hrgb hgfx v x
    _ = ((s₂.renderLine v).fb[v]'hv)[x]'hx := (renderLine_pixel s₂ hv hx).symm

/-- Settles O37: the closed form in mode 0, with the cell, the addresses and the tile's index in plain arithmetic. -/
theorem graphicsITickDrawsTheTiles : Obligations.GraphicsITickDrawsTheTiles := by
  intro s hv hlive hd h3 h2 h1
  have hm : s.modeIndex = 0 := by rw [State.modeIndex_eq, h3, h2, h1]; rfl
  obtain ⟨t, ht, -, hrow, -⟩ := visibleTickRendersTheClosedForm s hv hlive
  refine ⟨t, ht, ?_⟩
  intro c p x hx hp hcp nameAddr patternAddr colorAddr
  obtain ⟨hcell, hplace⟩ : x / 8 = c ∧ x % 8 = p := by omega
  have hc : c < 32 := by have hx' : x < 256 := hx; omega
  have hname : s.gridNameAddr s.v c = nameAddr := s.gridNameAddr_eq s.v c
  have hpattern : s.patternAddr s.v (byteN s nameAddr) = patternAddr := s.patternAddr_eq s.v _
  have hcolor : s.colorAddr (byteN s nameAddr) = colorAddr := s.colorAddr_eq _
  have hindex : indexGraphicsI s s.v c p = tileIndex (byteN s patternAddr) (byteN s colorAddr) p := by
    simp only [indexGraphicsI, fetch_eq_byteN, hname, hpattern, hcolor]
  have hpixel := hrow x hx
  rw [pixel_graphicsI hd hm, hcell, hplace, hindex] at hpixel
  rw [hpixel]
  have hbyte := byteN_lt s nameAddr
  exact ⟨hname ▸ (s.gridNameAddr_le hv hc).trans (by decide), hpattern ▸ s.patternAddr_le s.v hbyte,
    hcolor ▸ (s.colorAddr_le hbyte).trans (by decide),
    colour_tileIndex s (byteN s patternAddr) p (byteN_lt s colorAddr)⟩

/-- Settles O38: the closed form in mode 1; a glyph's pixel is a tile's pixel with R7 for its colour byte. -/
theorem textTickDrawsTheGlyphs : Obligations.TextTickDrawsTheGlyphs := by
  intro s hv hlive hd h3 h2 h1
  have hm : s.modeIndex = 1 := by rw [State.modeIndex_eq, h3, h2, h1]; rfl
  obtain ⟨t, ht, -, hrow, -⟩ := visibleTickRendersTheClosedForm s hv hlive
  refine ⟨t, ht, ?_, fun x hx hmargin => ?_⟩
  · intro c p x hx hc hp hcp nameAddr patternAddr
    obtain ⟨hinside, hcell, hplace⟩ : ¬ (x < 8 ∨ x ≥ 248) ∧ (x - 8) / 6 = c ∧ (x - 8) % 6 = p := by omega
    have hname : s.textNameAddr s.v c = nameAddr := s.textNameAddr_eq s.v c
    have hpattern : s.patternAddr s.v (byteN s nameAddr) = patternAddr := s.patternAddr_eq s.v _
    have hindex : indexText s s.v c p = tileIndex (byteN s patternAddr) (s.regNat 7) p := by
      simp only [indexText, fetch_eq_byteN, hname, hpattern, textIndex_eq_tileIndex]
    have hpixel := hrow x hx
    rw [pixel_text hd hm, if_neg hinside, hcell, hplace, hindex] at hpixel
    rw [hpixel]
    exact ⟨hname ▸ (s.textNameAddr_le hv hc).trans (by decide),
      hpattern ▸ s.patternAddr_le s.v (byteN_lt s nameAddr), colour_tileIndex s (byteN s patternAddr) p (s.regNat_lt 7)⟩
  · rw [hrow x hx, pixel_text hd hm, if_pos hmargin, backRgb_eq_shown]

/-- Settles O39: the closed form in mode 2, for each GFX2_MODEL. -/
theorem graphicsIITickDrawsTheTiles : Obligations.GraphicsIITickDrawsTheTiles := by
  intro s hv hlive hd h3 h2 h1
  have hm : s.modeIndex = 2 := by rw [State.modeIndex_eq, h3, h2, h1]; rfl
  obtain ⟨t, ht, -, hrow, -⟩ := visibleTickRendersTheClosedForm s hv hlive
  refine ⟨t, ht, fun hg => ?_, fun hg x hx => ?_⟩
  · intro c p x hx hp hcp name off patternAddr colorAddr
    obtain ⟨hcell, hplace⟩ : x / 8 = c ∧ x % 8 = p := by omega
    have hname : s.fetch (s.gridNameAddr s.v c) = name := by rw [State.gridNameAddr_eq]; rfl
    have hoff : g2Offset s.v name = off := g2Offset_eq s.v (byteN_lt s _)
    have hle : off ≤ 6143 := hoff ▸ g2Offset_le hv (byteN_lt s _)
    have hpattern : s.g2PatternAddr off = patternAddr := s.g2PatternAddr_eq hle
    have hcolor : s.g2ColorAddr off = colorAddr := s.g2ColorAddr_eq hle
    have hindex : indexGraphicsII s s.v c p = tileIndex (byteN s patternAddr) (byteN s colorAddr) p := by
      simp only [indexGraphicsII, hname, hoff, hpattern, hcolor, fetch_eq_byteN]
    have hpixel := hrow x hx
    rw [pixel_graphicsII hd hm hg, hcell, hplace, hindex] at hpixel
    rw [hpixel]
    exact colour_tileIndex s (byteN s patternAddr) p (byteN_lt s colorAddr)
  · rw [hrow x hx, pixel_graphicsII_stub hm hg, backRgb_eq_shown]

/-- Settles O40: the closed form with the display disabled; the registers after INIT are 0, so the display is off and the
backdrop index is 0. -/
theorem disabledDisplayShowsTheBackdrop : Obligations.DisabledDisplayShowsTheBackdrop := by
  refine ⟨fun s hv hlive hd => ?_, fun params pending => ⟨?_, ?_⟩⟩
  · obtain ⟨t, ht, -, hrow, -⟩ := visibleTickRendersTheClosedForm s hv hlive
    exact ⟨t, ht, fun x hx => by rw [hrow x hx, pixel_of_disabled hd, backRgb_eq_shown]⟩
  · rw [State.displayEnable, State.afterInit_readReg]
    rfl
  · have hindex : (State.afterInit params pending).backdropColor = 0 := by
      rw [State.backdropColor, State.regNat, State.afterInit_readReg]
      rfl
    rw [State.backRgb, hindex]
    rfl

/-- Settles O41: the closed form from mode index 3 on. -/
theorem unimplementedModesShowTheBackdrop : Obligations.UnimplementedModesShowTheBackdrop := by
  intro s hv hlive hm
  obtain ⟨t, ht, -, hrow, -⟩ := visibleTickRendersTheClosedForm s hv hlive
  exact ⟨t, ht, fun x hx => by rw [hrow x hx, pixel_of_three_le hm, backRgb_eq_shown]⟩

/-- Settles O44: the ticks draw the rows one after the other, all in the picture of the start. -/
theorem visibleFrameIsTheClosedForm : Obligations.VisibleFrameIsTheClosedForm := by
  intro s rest hlive hv hp
  have hstart : Drawn s 0 s := ⟨hlive, hv, rfl, rfl, rfl, fun _ _ _ _ h => absurd h (Nat.not_lt_zero _)⟩
  obtain ⟨t, hrun, hpt, ht⟩ := hstart.run_ticks (n := 192) (by decide) hp
  exact ⟨t, hrun, ht.v, hpt, ht.vram, ht.reg, fun y hy x hx => ht.rows y hy x hx hy⟩

/-- Settles O34: the model's table, read out, and index 0 under the mask. -/
theorem paletteHasTheListedColours : Obligations.PaletteHasTheListedColours := by
  refine ⟨rfl, fun s => ?_⟩
  rw [colour_eq_shown, backRgb_eq_shown]

end Sys2Proof.Safety
end

section
/-! SUPPORT. The timing unit and the interrupt (43_timing_interrupt.md): the next state of SHUTDOWN and of CI, ticks in a row, the interrupt
state machine of R196, and the obligations O45 to O51. -/

namespace Sys2Proof.Machine

open Sys2Proof.Config

/-- R212. -/
theorem exec_shutdown_of_live {s : State} (h : s.life = .live) :
    exec .shutdown s = .next { s with life := .shut, result := .nothing } := by
  simp only [exec, execShutdown, State.whenLive_of_live h, State.finish_eq]

/-- R195. -/
theorem exec_ci_of_live {s : State} (h : s.life = .live) :
    exec .ci s = .next { s with irq := false, result := .bool s.irq } := by
  simp only [exec, execCi, State.whenLive_of_live h]
  rfl

/-- A tick from line 192 on renders nothing (R190): it sets vblank and arms the interrupt at the boundary, and counts. -/
theorem exec_invisibleTick_of_live {s : State} (h : s.life = .live) (hv : 192 ≤ s.v) :
    exec .tick s = .next { s with
      vblank := s.vblank || decide (s.v = 192)
      irq := s.irq || (decide (s.v = 192) && s.interruptEnable)
      v := (s.v + 1) % 262
      result := .nothing } := by
  have hinvisible : ¬ s.v < frameHeight := Nat.not_lt.mpr hv
  rw [exec_tick_of_live h, if_neg hinvisible, if_neg hinvisible]

/-- The counter modulo 262 (R193), with the wrap as a case. -/
theorem succ_mod_262 {v : Nat} (h : v ≤ 261) : (v + 1) % 262 = if v + 1 = 262 then 0 else v + 1 := by
  split
  case isTrue hwrap => rw [hwrap]
  case isFalse hwrap => exact Nat.mod_eq_of_lt (by omega)

end Sys2Proof.Machine

namespace Sys2Proof.Safety

open Sys2Proof.Machine Sys2Proof.Config

/-! ### Ticks in a row (R193, R194) -/

/-- A live device `t` that has had `k` ticks since `s`: the counter is `k` lines on, and vblank is set if it was or if one of
the ticks was the one at the boundary line. -/
structure Ticked (s : State) (k : Nat) (t : State) : Prop where
  life : t.life = .live
  v : t.v = (s.v + k) % 262
  vblank : t.vblank = true ↔ s.vblank = true ∨ ∃ j < k, (s.v + j) % 262 = 192

theorem Ticked.zero {s : State} (hlive : s.life = .live) (hv : s.v ≤ 261) : Ticked s 0 s :=
  ⟨hlive, (Nat.mod_eq_of_lt (Nat.lt_succ_of_le hv)).symm, by simp⟩

theorem Ticked.step_tick {s t : State} {k : Nat} {rest : List TransactionWord} (h : Ticked s k t)
    (hp : t.pending = encode .tick :: rest) : ∃ u, step t = .next u ∧ u.pending = rest ∧ Ticked s (k + 1) u := by
  obtain ⟨hlive, hv, hvblank⟩ := h
  have htick := exec_tick_of_live (s := { t with pending := rest }) hlive
  refine ⟨_, (step_of_encode hp rfl).trans htick, rfl, hlive, ?_, ?_⟩
  · calc (t.v + 1) % 262
        = ((s.v + k) % 262 + 1) % 262 := by rw [hv]
      _ = (s.v + (k + 1)) % 262 := by rw [Nat.mod_add_mod, Nat.add_assoc]
  · simp only [Bool.or_eq_true, decide_eq_true_eq, hvblank, hv, Nat.exists_lt_succ_right, or_assoc]

theorem Ticked.run_ticks {s t : State} {k n : Nat} {rest : List TransactionWord} (h : Ticked s k t)
    (hp : t.pending = List.replicate n (encode .tick) ++ rest) :
    ∃ u, run n t = .next u ∧ u.pending = rest ∧ Ticked s (k + n) u := by
  induction n generalizing k t with
  | zero => exact ⟨t, rfl, hp, h⟩
  | succ n ih =>
    obtain ⟨u, hstep, hpu, hu⟩ := h.step_tick hp
    obtain ⟨w, hrun, hpw, hw⟩ := ih hu hpu
    rw [Nat.add_assoc, Nat.add_comm 1] at hw
    exact ⟨w, (run_succ_of_step hstep n).trans hrun, hpw, hw⟩

/-- The first `k` ticks of a frame. -/
theorem run_ticks_of_frame {s : State} {k : Nat} {rest : List TransactionWord} (hlive : s.life = .live) (hv : s.v ≤ 261)
    (hp : s.pending = ProgramItem.frame.expand ++ rest) (hk : k ≤ 262) :
    ∃ t, run k s = .next t ∧ t.pending = List.replicate (262 - k) (encode .tick) ++ rest ∧ Ticked s k t := by
  rw [expand_frame, ← Nat.add_sub_cancel' hk, List.replicate_add, List.append_assoc] at hp
  simpa using (Ticked.zero hlive hv).run_ticks hp

/-! ### The interrupt state machine (R196) -/

/-- The register-write row of R196, the same for both spellings, in one expression: the write arms for R1 alone, with vblank
latched and IE in the value. -/
theorem interruptAfter_wcReg (x r : BitVec 3) (s : State) :
    interruptAfter (.wcReg x r) s = (s.vblank, s.irq || (decide (r = 1) && s.vblank && s.cmd.getLsbD 5)) := by
  have hrow : interruptAfter (.wcReg x r) s =
      if r = 1 then (s.vblank, s.irq || (s.vblank && s.cmd.getLsbD 5)) else (s.vblank, s.irq) := rfl
  rw [hrow]
  split
  case isTrue hr => rw [decide_eq_true hr, Bool.true_and]
  case isFalse hr => rw [decide_eq_false hr, Bool.false_and, Bool.false_and, Bool.or_false]

/-- On a live device a transaction other than INIT leaves the vblank flag and the pending latch of its row of R196. -/
theorem exec_interruptAfter_of_live {i : Instr} {s : State} (hi : i ≠ .init) (hlive : s.life = .live) :
    ∃ t, exec i s = .next t ∧ (t.vblank, t.irq) = interruptAfter i s := by
  cases i with
  | init => exact absurd rfl hi
  | tick =>
    refine ⟨_, exec_tick_of_live hlive, ?_⟩
    by_cases hb : s.v = 192
    · simp [interruptAfter, hb, State.interruptEnable]
    · simp [interruptAfter, hb]
  | wcReg x r => exact ⟨_, exec_wcReg_of_live hlive x r, (interruptAfter_wcReg x r s).symm⟩
  | wcReg3 x r => exact ⟨_, exec_wcReg3_of_live hlive x r, (interruptAfter_wcReg x r s).symm⟩
  | rs =>
    refine ⟨_, exec_rs_of_live hlive, ?_⟩
    cases hclears : s.params.statusClearsIrq
    · simp [interruptAfter, hclears]
    · simp [interruptAfter, hclears]
  | ci => exact ⟨_, exec_ci_of_live hlive, rfl⟩
  | shutdown => exact ⟨_, exec_shutdown_of_live hlive, rfl⟩
  | wcFirst b => exact ⟨_, exec_wcFirst_of_live hlive b, rfl⟩
  | wcRsetup a => exact ⟨_, exec_wcRsetup_of_live hlive a, rfl⟩
  | wcWsetup a => exact ⟨_, exec_wcWsetup_of_live hlive a, rfl⟩
  | wd b => exact ⟨_, exec_wd_of_live hlive b, rfl⟩
  | rd => exact ⟨_, exec_rd_of_live hlive, rfl⟩
  | _ => exact ⟨_, State.whenLive_of_live hlive _, rfl⟩

theorem interruptAfter_wcReg_rises {x r : BitVec 3} {s : State} (hs : s.irq = false)
    (h : (interruptAfter (.wcReg x r) s).2 = true) : r = 1 ∧ s.vblank = true ∧ s.cmd.getLsbD 5 = true := by
  rw [interruptAfter_wcReg, hs, Bool.false_or] at h
  simpa only [Bool.and_eq_true, decide_eq_true_eq, and_assoc] using h

/-! ### The obligations -/

/-- Settles O47: the next state of one tick, and the count of a whole frame of ticks, 262, which is 0 modulo 262. -/
theorem counterAdvancesModulo262 : Obligations.CounterAdvancesModulo262 := by
  refine ⟨fun s hlive hv => ?_, fun s rest hlive hv hp => ?_⟩
  · exact ⟨_, exec_tick_of_live hlive, succ_mod_262 hv, Nat.le_of_lt_succ (Nat.mod_lt _ (by decide))⟩
  · obtain ⟨t, hrun, hpt, ht⟩ := run_ticks_of_frame hlive hv hp (Nat.le_refl 262)
    refine ⟨t, hrun, ?_, hpt⟩
    rw [ht.v, Nat.add_mod_right, Nat.mod_eq_of_lt (Nat.lt_succ_of_le hv)]

/-- Settles O48: from line 0 the tick at the boundary line, 192, is the 193rd, and no tick clears the flag. -/
theorem vblankIsSetOncePerFrame : Obligations.VblankIsSetOncePerFrame := by
  intro s rest hlive hv hvblank hp k hk
  obtain ⟨t, hrun, -, ht⟩ := run_ticks_of_frame hlive (by omega) hp hk
  refine ⟨t, hrun, by rw [ht.v, hv, Nat.zero_add], ?_⟩
  have hboundary : (∃ j < k, (s.v + j) % 262 = 192) ↔ 193 ≤ k := by
    constructor
    · rintro ⟨j, hj, hline⟩
      omega
    · intro h
      exact ⟨192, h, by rw [hv]⟩
  rw [Bool.eq_iff_iff, ht.vblank, hboundary, hvblank]
  simp

/-- Settles O50: INIT leaves the reset values, every other transaction those of its row. -/
theorem interruptStateMachineFollowsTheTable : Obligations.InterruptStateMachineFollowsTheTable := by
  intro i s t h
  by_cases hi : i = .init
  · subst hi
    obtain ⟨-, rfl⟩ := execInit_next_iff.mp h
    rfl
  · obtain ⟨u, hu, hrow⟩ := exec_interruptAfter_of_live hi (live_of_exec_next hi h)
    cases h.symm.trans hu
    exact hrow

/-- Settles O51: in the table of R196 only the rows of TICK and of the two register writes can raise the latch. -/
theorem interruptRisesOnlyTwoWays : Obligations.InterruptRisesOnlyTwoWays := by
  intro i s t h hs ht
  have hrow : (interruptAfter i s).2 = true := by
    rw [← interruptStateMachineFollowsTheTable i s t h]
    exact ht
  cases i with
  | tick =>
    left
    by_cases hb : s.v = 192
    · exact ⟨rfl, hb, by simpa [interruptAfter, hb, hs] using hrow⟩
    · simp [interruptAfter, hb, hs] at hrow
  | wcReg x r =>
    obtain ⟨rfl, hvblank, hbit⟩ := interruptAfter_wcReg_rises hs hrow
    exact .inr ⟨⟨x, .inl rfl⟩, hvblank, hbit⟩
  | wcReg3 x r =>
    obtain ⟨rfl, hvblank, hbit⟩ := interruptAfter_wcReg_rises (x := x) hs hrow
    exact .inr ⟨⟨x, .inr rfl⟩, hvblank, hbit⟩
  | _ => simp [interruptAfter, hs] at hrow

/-- Settles O45: the tick of an invisible line, at the boundary. -/
theorem boundaryTickSetsVblankAndArms : Obligations.BoundaryTickSetsVblankAndArms := by
  intro s hlive hv
  rw [exec_invisibleTick_of_live hlive hv.ge, hv]
  simp [State.interruptEnable]

/-- Settles O46: the tick of an invisible line, past the boundary. -/
theorem blankTickOnlyCounts : Obligations.BlankTickOnlyCounts := by
  intro s hlive hv
  rw [exec_invisibleTick_of_live hlive hv.le]
  simp [hv.ne']

/-- Settles O49: CI leaves a live device with the latch clear, on which the second CI runs. -/
theorem consumeInterruptReturnsAndClears : Obligations.ConsumeInterruptReturnsAndClears := by
  intro s hlive
  exact ⟨exec_ci_of_live hlive, exec_ci_of_live (s := { s with irq := false, result := .bool s.irq }) hlive⟩

end Sys2Proof.Safety
end

section
/-! SUPPORT. The lifecycle and the host queries (44_host_queries.md): the next state of each query, the refusals outside the
device's lifetime, and the obligations O10, O11, O13 and O14. -/

namespace Sys2Proof.Machine

open Sys2Proof.Config

/-! ### The queries on a live device -/

/-- R214. -/
theorem exec_fb_of_live {s : State} (h : s.life = .live) : exec .fb s = .next { s with result := .frame s.fb } := by
  simp only [exec, execFb, State.whenLive_of_live h, State.finish_eq]

/-- R215. -/
theorem exec_width_of_live {s : State} (h : s.life = .live) :
    exec .width s = .next { s with result := .number lineWidth } := by
  simp only [exec, execWidth, State.whenLive_of_live h, State.finish_eq]

/-- R216. -/
theorem exec_height_of_live {s : State} (h : s.life = .live) :
    exec .height s = .next { s with result := .number frameHeight } := by
  simp only [exec, execHeight, State.whenLive_of_live h, State.finish_eq]

/-- R217. -/
theorem exec_spf_of_live {s : State} (h : s.life = .live) :
    exec .spf s = .next { s with result := .number scanlines } := by
  simp only [exec, execSpf, State.whenLive_of_live h, State.finish_eq]

/-! ### INIT where the device has existed -/

theorem exec_init_refused_of_live {s : State} (h : s.life = .live) : exec .init s = .refused .deviceExists := by
  simp only [exec, execInit, h]

theorem exec_init_refused_of_shut {s : State} (h : s.life = .shut) : exec .init s = .refused .deviceShut := by
  simp only [exec, execInit, h]

end Sys2Proof.Machine

namespace Sys2Proof

/-! ### The words of the constant queries (R80, R81) -/

theorem decode_width (second : Bool) (b : Byte) : decode second (transactionWord 0x9 b) = .ok .width := by simp [decode]

theorem decode_height (second : Bool) (b : Byte) : decode second (transactionWord 0xA b) = .ok .height := by simp [decode]

theorem decode_spf (second : Bool) (b : Byte) : decode second (transactionWord 0xB b) = .ok .spf := by simp [decode]

end Sys2Proof

namespace Sys2Proof.Safety

open Sys2Proof.Machine

/-! ### The refusals outside the lifetime (R213) -/

/-- INIT has a check of its own; every other transaction stands behind the common one. -/
theorem exec_refused_of_shut (i : Instr) {s : State} (h : s.life = .shut) : exec i s = .refused .deviceShut := by
  by_cases hi : i = .init
  · rw [hi, exec_init_refused_of_shut h]
  · obtain ⟨f, hf, -⟩ := exec_eq_whenLive hi
    rw [hf, State.whenLive_refused_of_shut h]

theorem exec_refused_of_absent {i : Instr} {s : State} (hi : i ≠ .init) (h : s.life = .absent) :
    exec i s = .refused .noDevice := by
  obtain ⟨f, hf, -⟩ := exec_eq_whenLive hi
  rw [hf, State.whenLive_refused_of_absent h]

/-! ### The obligations -/

/-- Settles O11: the check of INIT and the common check of all other transactions, for each state of the lifecycle. -/
theorem outsideTheLifetimeIsRefused : Obligations.OutsideTheLifetimeIsRefused := by
  intro i s
  refine ⟨exec_refused_of_shut i, fun habsent hi => exec_refused_of_absent hi habsent, ?_⟩
  rintro hlive rfl
  exact exec_init_refused_of_live hlive

/-- Settles O10: the next state of SHUTDOWN on a live device. -/
theorem shutdownOnlyEndsTheLifetime : Obligations.ShutdownOnlyEndsTheLifetime := by
  intro s hlive
  exact exec_shutdown_of_live hlive

/-- Settles O13: the next state of each query, and the decoder's rule for its kind, which reads no operand byte. -/
theorem queriesReturnTheConstants : Obligations.QueriesReturnTheConstants := by
  constructor
  · intro s hlive
    exact ⟨exec_width_of_live hlive, exec_height_of_live hlive, exec_spf_of_live hlive⟩
  · intro second b
    exact ⟨decode_width second b, decode_height second b, decode_spf second b⟩

/-- Settles O14: the next state of FB on a live device. -/
theorem framebufferQueryReturnsTheFrame : Obligations.FramebufferQueryReturnsTheFrame := by
  intro s hlive
  exact exec_fb_of_live hlive

end Sys2Proof.Safety
end

section
/-! SUPPORT. Exceptions and debug (60_exceptions.md): the VRAM dump (R243), the acknowledgement protocol (R236), and the
obligations O22 and O52. -/

namespace Sys2Proof.Machine

/-! ### The registers and the interrupt after SETREG -/

@[simp] theorem State.afterSetreg_readReg_same (s : State) (n : BitVec 3) (val : Byte) :
    (s.afterSetreg n val).readReg n = val :=
  State.readReg_writeReg_same s n val

/-- Without vblank no register write arms the interrupt (R145). -/
theorem State.afterSetreg_irq_of_vblank_false {s : State} (h : s.vblank = false) (n : BitVec 3) (val : Byte) :
    (s.afterSetreg n val).irq = s.irq := by
  simp [State.afterSetreg, h]

end Sys2Proof.Machine

namespace Sys2Proof.Safety

open Sys2Proof.Machine

/-! ### The VRAM dump (R243) -/

/-- `n` reads move the next byte on by `n` (R108). -/
theorem ReadsAt.run_rd {m : Memory} {a : VramAddr} {n : Nat} {s : State} {rest : List TransactionWord}
    (h : ReadsAt m a s) (hp : s.pending = List.replicate n (encode .rd) ++ rest) :
    ∃ t, run n s = .next t ∧ t.pending = rest ∧ ReadsAt m (a + BitVec.ofNat 14 n) t := by
  have hws : ∀ w ∈ List.replicate n (encode .rd), readOrQuiet w = true := fun w hw => by
    rw [List.eq_of_mem_replicate hw]
    rfl
  have hcount : readCount (List.replicate n (encode .rd)) = n := List.countP_replicate.trans (if_pos rfl)
  have hrun := h.run_readOrQuiet hws hp
  rwa [List.length_replicate, hcount] at hrun

/-- A completed read leaves the latch flag reset (R26, R107). -/
theorem second_of_step_rd {s t : State} {rest : List TransactionWord} (hp : s.pending = encode .rd :: rest)
    (h : step s = .next t) : t.second = false := by
  rw [step_of_encode hp rfl] at h
  exact latchFlagFollowsThePort .rd _ t h

/-- Read `k` of `n` reads from address `a` on: its result, and the state it leaves. -/
theorem run_setr_read {s : State} {a : VramAddr} {k n : Nat} {rest : List TransactionWord} (hlive : s.life = .live)
    (hsecond : s.second = false) (hk : k < n)
    (hp : s.pending = (ProgramItem.setr a).expand ++ (List.replicate n (encode .rd) ++ rest)) :
    ∃ t, run (2 + (k + 1)) s = .next t ∧ t.pending = List.replicate (n - (k + 1)) (encode .rd) ++ rest ∧
      ReadsAt s.vram (a + BitVec.ofNat 14 (k + 1)) t ∧ t.second = false ∧
      t.result = .byte (s.readVram (a + BitVec.ofNat 14 k)) := by
  rw [replicate_eq_append_cons hk, List.append_assoc, List.cons_append] at hp
  obtain ⟨s₁, hrun₁, hp₁, hreads₁⟩ := run_setr hlive hsecond hp
  obtain ⟨s₂, hrun₂, hp₂, hreads₂⟩ := hreads₁.run_rd hp₁
  obtain ⟨t, hstep, hpt, hreads, hresult⟩ := hreads₂.step_rd hp₂ (decode_rd s₂.second 0x00)
  rw [show (1 : VramAddr) = BitVec.ofNat 14 1 from rfl, latch_advance_add] at hreads
  refine ⟨t, ?_, hpt, hreads, second_of_step_rd hp₂ hstep, hresult⟩
  calc run (2 + (k + 1)) s
      = run (k + 1) s₁ := run_add_of_run hrun₁ _
    _ = run 1 s₂ := run_add_of_run hrun₂ 1
    _ = .next t := run_succ_of_step hstep 0

/-! ### The acknowledgement (R236) -/

/-- CI clears the pending latch and RS the vblank flag; RS also resets the latch flag (R110). -/
theorem run_ci_rs {s : State} {rest : List TransactionWord} (hlive : s.life = .live)
    (hp : s.pending = encode .ci :: encode .rs :: rest) :
    ∃ t, run 2 s = .next t ∧ t.pending = rest ∧ t.life = .live ∧ t.second = false ∧ t.vblank = false ∧
      t.irq = false := by
  have hci := (step_of_encode hp rfl).trans (exec_ci_of_live (s := { s with pending := encode .rs :: rest }) hlive)
  have hrs := (step_of_encode (s := { s with pending := encode .rs :: rest, irq := false, result := .bool s.irq })
    rfl rfl).trans (exec_rs_of_live hlive)
  exact ⟨_, (run_succ_of_step hci 1).trans (run_succ_of_step hrs 0), rfl, hlive, rfl, rfl, by simp⟩

/-! ### The obligations -/

/-- Settles O22: the results are those of the reads from address 0 on, and after the last of the 16,384 the next byte is
the one at 0 again, since 16,384 is 0 in 14 bits. -/
theorem vramDumpReturnsEveryByteInOrder : Obligations.VramDumpReturnsEveryByteInOrder := by
  intro s rest hlive hsecond hp
  rw [List.append_assoc] at hp
  constructor
  · intro k hk
    obtain ⟨u, hrun, -, -, -, hresult⟩ := run_setr_read hlive hsecond hk hp
    rw [zero_add] at hresult
    exact ⟨u, hrun, hresult⟩
  · obtain ⟨t, hrun, hpt, hreads, hflag, -⟩ := run_setr_read (k := 16383) hlive hsecond (by decide) hp
    have hwrap : (0 : VramAddr) + BitVec.ofNat 14 (16383 + 1) = 0 := by decide
    rw [hwrap] at hreads
    exact ⟨t, hrun, hpt, hreads.addr, hreads.rbuf, hflag⟩

/-- Settles O52: after CI and RS neither flag is set, and without vblank the write of R1 arms nothing; RS alone folds CI in
or not by STATUS_CLEARS_IRQ. -/
theorem acknowledgedInterruptStaysDown : Obligations.AcknowledgedInterruptStaysDown := by
  refine ⟨fun s val rest hlive hp => ?_, fun s hlive hclears => ?_, fun s hlive hkeeps => ?_⟩
  · obtain ⟨u, hrun, hpu, hliveu, hsecond, hvblank, hirq⟩ := run_ci_rs hlive hp
    have hsetreg := run_setreg hliveu hsecond hpu
    refine ⟨_, (run_add_of_run hrun 2).trans hsetreg, hvblank, ?_, State.afterSetreg_readReg_same _ 1 val⟩
    exact (State.afterSetreg_irq_of_vblank_false hvblank 1 val).trans hirq
  · exact ⟨_, exec_rs_of_live hlive, rfl, by simp [hclears]⟩
  · exact ⟨_, exec_rs_of_live hlive, rfl, by simp [hkeeps]⟩

end Sys2Proof.Safety
end

section
/-! SUPPORT. The boot sequence (70_reset_and_hazards.md R262): the state SYNC and SETR leave (R263), and the obligation
O60. -/

namespace Sys2Proof.Machine

/-- The state SETR `a` leaves (R92, R101): the fields it sets depend on `a` and on VRAM alone. -/
def State.afterSetr (s : State) (a : VramAddr) : State :=
  { s with
    cmd := setupByte 0b00 (a.extractLsb' 8 6) ++ a.extractLsb' 0 8
    rbuf := s.readVram a
    addr := a + 1
    second := false
    result := .nothing }

/-- The state SYNC and SETR `a` leave, with `rest` still to run. -/
def State.afterBoot (s : State) (a : VramAddr) (rest : List TransactionWord) : State :=
  State.afterSetr { s.acknowledge with pending := rest } a

/-- No part of the port state is read: SYNC fixes the latch flag, and SETR overwrites the others (R263). -/
theorem State.afterBoot_port (s : State) (a addr : VramAddr) (rbuf : Byte) (cmd : CommandWord) (second : Bool)
    (rest : List TransactionWord) :
    State.afterBoot { s with addr := addr, rbuf := rbuf, cmd := cmd, second := second } a rest = s.afterBoot a rest :=
  rfl

end Sys2Proof.Machine

namespace Sys2Proof.Safety

open Sys2Proof.Machine

/-! ### The boot sequence (R262) -/

/-- The setup after its first byte: the command word's low half and the address come from that byte (R263). -/
theorem exec_wcRsetup_afterFirst {s : State} (hlive : s.life = .live) (a : VramAddr) :
    exec (.wcRsetup (a.extractLsb' 8 6)) (s.afterFirst (a.extractLsb' 0 8)) = .next (s.afterSetr a) := by
  have hlow : (s.afterFirst (a.extractLsb' 0 8)).cmd.extractLsb' 0 8 = a.extractLsb' 0 8 := lowByte_append _ _
  rw [exec_wcRsetup_of_live (s := s.afterFirst _) hlive, setup_afterFirst, hlow]
  rfl

/-- SETR in full. -/
theorem run_setr_eq {s : State} {a : VramAddr} {rest : List TransactionWord} (hlive : s.life = .live)
    (hsecond : s.second = false) (hp : s.pending = (ProgramItem.setr a).expand ++ rest) :
    run 2 s = .next (State.afterSetr { s with pending := rest } a) := by
  rw [expand_setr] at hp
  exact (run_pair hlive hsecond hp rfl).trans (exec_wcRsetup_afterFirst (s := { s with pending := rest }) hlive a)

/-- SYNC runs in either phase and leaves the first one, in which SETR runs. -/
theorem run_sync_setr {s : State} {a : VramAddr} {rest : List TransactionWord} (hlive : s.life = .live)
    (hp : s.pending = ProgramItem.sync.expand ++ (ProgramItem.setr a).expand ++ rest) :
    run 3 s = .next (s.afterBoot a rest) := by
  rw [expand_sync, List.append_assoc] at hp
  have hsync := (step_of_encode hp rfl).trans (exec_rs_of_live hlive)
  exact (run_succ_of_step hsync 2).trans (run_setr_eq hlive rfl rfl)

/-! ### The obligations -/

/-- Settles O60: both runs end in the state after the boot sequence, which reads no part of the port state. -/
theorem bootSequenceForgetsThePortState : Obligations.BootSequenceForgetsThePortState := by
  intro s a addr rbuf cmd second rest hlive hp
  refine ⟨s.afterBoot a rest, run_sync_setr hlive hp, ?_⟩
  rw [← State.afterBoot_port s a addr rbuf cmd second rest]
  exact run_sync_setr hlive hp

end Sys2Proof.Safety
end
